-- ==== Sys2Proof/Word.lean ====
section
/-! DEFINITION. The word types of CORE (spec 00_scope.md R11, R12): bytes, byte sequences, 32- and 64-bit words. -/

namespace Sys2Proof

/-- R11: an unsigned 8-bit value. -/
abbrev Byte := BitVec 8

/-- R11: a byte sequence of any length. -/
abbrev Bytes := List Byte

/-- R12: a 32-bit word. -/
abbrev Word32 := BitVec 32

/-- R12: a 64-bit word; also the shape of a command, R90. -/
abbrev Word64 := BitVec 64

/-- R91: a slot number, the value of a 3-bit slot field. -/
abbrev Slot := Fin 8

end Sys2Proof
end

