-- ==== Sys2Proof/Machine/Bytes.lean ====
section
/-! DEFINITION. Byte-order conversions, slices, padding and chunks (00_scope.md R11 to R13, 20_memory.md R68). -/

namespace Sys2Proof.Machine

open Sys2Proof

/-- R13: `le(b)`, the integer whose least significant byte is `b[0]`. -/
def le : Bytes → Nat
  | [] => 0
  | x :: r => x.toNat + 256 * le r

/-- R13: `be(b)`, the integer whose most significant byte is `b[0]`. -/
def be (b : Bytes) : Nat := le b.reverse

/-- R13: `to_le(v, n)`, used where `v < 256^n`. -/
def toLe (v : Nat) : Nat → Bytes
  | 0 => []
  | n + 1 => BitVec.ofNat 8 v :: toLe (v / 256) n

/-- R13: `to_be(v, n)`, used where `v < 256^n`. -/
def toBe (v n : Nat) : Bytes := (toLe v n).reverse

/-- R11: `n` zero bytes. -/
def zeros (n : Nat) : Bytes := List.replicate n 0#8

/-- R11: `b[i..j)`. -/
def slice (b : Bytes) (i j : Nat) : Bytes := (b.drop i).take (j - i)

/-- Bytewise exclusive or, as long as the shorter operand. -/
def xorBytes (a b : Bytes) : Bytes := List.zipWith (fun x y => x ^^^ y) a b

/-- 42_aes_gcm.md R183: zero bytes up to the next multiple of 16, none if already a multiple. -/
def pad16 (b : Bytes) : Bytes := b ++ zeros ((16 - b.length % 16) % 16)

/-- At most `fuel` chunks of `k` bytes, in order, the last one possibly shorter. -/
def chunksAux (k : Nat) : Nat → Bytes → List Bytes
  | 0, _ => []
  | _ + 1, [] => []
  | fuel + 1, b => b.take k :: chunksAux k fuel (b.drop k)

/-- The `k`-byte chunks of `b` in order, the last one possibly shorter (20_memory.md R70); `k > 0`. -/
def chunks (k : Nat) (b : Bytes) : List Bytes := chunksAux k b.length b

end Sys2Proof.Machine
end

