-- ==== Sys2Proof/Syntax.lean ====
section
/-! DEFINITION. The command set of CORE: one constructor of `Instr` per row of spec/opcode_table.json
(30_encoding.md R95), operands in assembler order (R100). Slot operands are slot numbers, `imm` is the
32-bit immediate of R94, so every term has an encoding. -/

namespace Sys2Proof

/-- R93: the hash variant selected by a command. -/
inductive Variant where
  | sha256
  | sha384
  | sha512
deriving DecidableEq, Repr

/-- R95: the 59 encodings of the 43 commands. -/
inductive Instr where
  /-- NOP, opcode 0x00, 47_system.md R350 -/
  | nop
  /-- SLOT_CLEAR, opcode 0x01, 47_system.md R351 -/
  | slotClear (rd : Slot)
  /-- SLOT_COPY, opcode 0x02, 47_system.md R352 -/
  | slotCopy (rd rs1 : Slot)
  /-- SLOT_CONCAT, opcode 0x03, 47_system.md R353 -/
  | slotConcat (rd rs1 rs2 : Slot)
  /-- CT_CMP, opcode 0x04, 47_system.md R354 -/
  | ctCmp (rs1 rs2 : Slot)
  /-- HASH.SHA256, opcode 0x10 var 0, 40_hash.md R128 -/
  | hashSha256 (rd rs1 : Slot)
  /-- HASH.SHA384, opcode 0x10 var 1, 40_hash.md R129 -/
  | hashSha384 (rd rs1 : Slot)
  /-- HASH.SHA512, opcode 0x10 var 2, 40_hash.md R130 -/
  | hashSha512 (rd rs1 : Slot)
  /-- SHA_COMPRESS.SHA256, opcode 0x11 var 0, 40_hash.md R131 -/
  | shaCompressSha256 (rd rs1 rs2 : Slot)
  /-- SHA_COMPRESS.SHA384, opcode 0x11 var 1, 40_hash.md R131 -/
  | shaCompressSha384 (rd rs1 rs2 : Slot)
  /-- SHA_COMPRESS.SHA512, opcode 0x11 var 2, 40_hash.md R131 -/
  | shaCompressSha512 (rd rs1 rs2 : Slot)
  /-- SHA_PAD.SHA256, opcode 0x12 var 0, 40_hash.md R132 -/
  | shaPadSha256 (rd rs1 : Slot)
  /-- SHA_PAD.SHA384, opcode 0x12 var 1, 40_hash.md R132 -/
  | shaPadSha384 (rd rs1 : Slot)
  /-- SHA_PAD.SHA512, opcode 0x12 var 2, 40_hash.md R132 -/
  | shaPadSha512 (rd rs1 : Slot)
  /-- SHA_IV.SHA256, opcode 0x13 var 0, 40_hash.md R133 -/
  | shaIvSha256 (rd : Slot)
  /-- SHA_IV.SHA384, opcode 0x13 var 1, 40_hash.md R133 -/
  | shaIvSha384 (rd : Slot)
  /-- SHA_IV.SHA512, opcode 0x13 var 2, 40_hash.md R133 -/
  | shaIvSha512 (rd : Slot)
  /-- HMAC.SHA256, opcode 0x20 var 0, 41_mac_kdf.md R152 -/
  | hmacSha256 (rd rs1 rs2 : Slot)
  /-- HMAC.SHA384, opcode 0x20 var 1, 41_mac_kdf.md R152 -/
  | hmacSha384 (rd rs1 rs2 : Slot)
  /-- HMAC.SHA512, opcode 0x20 var 2, 41_mac_kdf.md R152 -/
  | hmacSha512 (rd rs1 rs2 : Slot)
  /-- HKDF_EXTRACT.SHA256, opcode 0x21 var 0, 41_mac_kdf.md R153 -/
  | hkdfExtractSha256 (rd rs1 rs2 : Slot)
  /-- HKDF_EXTRACT.SHA384, opcode 0x21 var 1, 41_mac_kdf.md R153 -/
  | hkdfExtractSha384 (rd rs1 rs2 : Slot)
  /-- HKDF_EXTRACT.SHA512, opcode 0x21 var 2, 41_mac_kdf.md R153 -/
  | hkdfExtractSha512 (rd rs1 rs2 : Slot)
  /-- HKDF_EXPAND.SHA256, opcode 0x22 var 0, 41_mac_kdf.md R155 -/
  | hkdfExpandSha256 (rd rs1 rs2 : Slot) (imm : Word32)
  /-- HKDF_EXPAND.SHA384, opcode 0x22 var 1, 41_mac_kdf.md R155 -/
  | hkdfExpandSha384 (rd rs1 rs2 : Slot) (imm : Word32)
  /-- HKDF_EXPAND.SHA512, opcode 0x22 var 2, 41_mac_kdf.md R155 -/
  | hkdfExpandSha512 (rd rs1 rs2 : Slot) (imm : Word32)
  /-- HKDF_EXPAND_LABEL.SHA256, opcode 0x23 var 0, 41_mac_kdf.md R157 -/
  | hkdfExpandLabelSha256 (rd rs1 rs2 rs3 : Slot) (imm : Word32)
  /-- HKDF_EXPAND_LABEL.SHA384, opcode 0x23 var 1, 41_mac_kdf.md R157 -/
  | hkdfExpandLabelSha384 (rd rs1 rs2 rs3 : Slot) (imm : Word32)
  /-- HKDF_EXPAND_LABEL.SHA512, opcode 0x23 var 2, 41_mac_kdf.md R157 -/
  | hkdfExpandLabelSha512 (rd rs1 rs2 rs3 : Slot) (imm : Word32)
  /-- AES_KEYEXP, opcode 0x30, 42_aes_gcm.md R176 -/
  | aesKeyexp (rd rs1 : Slot)
  /-- AES_ENC, opcode 0x31, 42_aes_gcm.md R178 -/
  | aesEnc (rd rs1 rs2 : Slot)
  /-- GF128_MUL, opcode 0x32, 42_aes_gcm.md R182 -/
  | gf128Mul (rd rs1 rs2 : Slot)
  /-- GHASH, opcode 0x33, 42_aes_gcm.md R184 -/
  | ghash (rd rs1 rs2 rs3 : Slot)
  /-- AES_CTR, opcode 0x34, 42_aes_gcm.md R187 -/
  | aesCtr (rd rs1 rs2 rs3 : Slot)
  /-- GCM_ENC, opcode 0x35, 42_aes_gcm.md R189 -/
  | gcmEnc (rd rd2 rs1 rs2 rs3 rs4 : Slot)
  /-- GCM_DEC, opcode 0x36, 42_aes_gcm.md R190 -/
  | gcmDec (rd rs1 rs2 rs3 rs4 rs5 : Slot)
  /-- CHACHA20_BLOCK, opcode 0x40, 43_chacha_poly.md R213 -/
  | chacha20Block (rd rs1 rs2 : Slot) (imm : Word32)
  /-- CHACHA20_XOR, opcode 0x41, 43_chacha_poly.md R215 -/
  | chacha20Xor (rd rs1 rs2 rs3 : Slot) (imm : Word32)
  /-- POLY1305, opcode 0x42, 43_chacha_poly.md R221 -/
  | poly1305 (rd rs1 rs2 : Slot)
  /-- CCP_ENC, opcode 0x43, 43_chacha_poly.md R225 -/
  | ccpEnc (rd rd2 rs1 rs2 rs3 rs4 : Slot)
  /-- CCP_DEC, opcode 0x44, 43_chacha_poly.md R226 -/
  | ccpDec (rd rs1 rs2 rs3 rs4 rs5 : Slot)
  /-- X25519, opcode 0x50, 44_x25519.md R248 -/
  | x25519 (rd rs1 rs2 : Slot)
  /-- X25519_BASE, opcode 0x51, 44_x25519.md R249 -/
  | x25519Base (rd rs1 : Slot)
  /-- GF_MUL, opcode 0x52, 44_x25519.md R242 -/
  | gfMul (rd rs1 rs2 : Slot)
  /-- GF_INV, opcode 0x53, 44_x25519.md R244 -/
  | gfInv (rd rs1 : Slot)
  /-- LADDER, opcode 0x54, 44_x25519.md R247 -/
  | ladder (rd rd2 rs1 rs2 : Slot)
  /-- DER_PARSE, opcode 0x60, 45_der.md R278 -/
  | derParse (rd rs1 : Slot)
  /-- CERT_PARSE, opcode 0x70, 46_certificate.md R300 -/
  | certParse (rs1 : Slot) (imm : Word32)
  /-- CERT_FIELD, opcode 0x71, 46_certificate.md R307 -/
  | certField (rd : Slot) (imm : Word32)
  /-- CERT_SAN, opcode 0x72, 46_certificate.md R309 -/
  | certSan (rd : Slot) (imm : Word32)
  /-- CERT_BC, opcode 0x73, 46_certificate.md R310 -/
  | certBc (imm : Word32)
  /-- CERT_KU, opcode 0x74, 46_certificate.md R311 -/
  | certKu (imm : Word32)
  /-- CERT_HOSTNAME, opcode 0x75, 46_certificate.md R314 -/
  | certHostname (rs1 : Slot) (imm : Word32)
  /-- HOSTNAME_MATCH, opcode 0x76, 46_certificate.md R313 -/
  | hostnameMatch (rs1 rs2 : Slot)
  /-- CERT_VALIDITY, opcode 0x77, 46_certificate.md R316 -/
  | certValidity (rs1 : Slot) (imm : Word32)
  /-- CHAIN_VALIDATE, opcode 0x78, 46_certificate.md R318 -/
  | chainValidate (rs1 : Slot) (imm : Word32)
  /-- TS_ADD, opcode 0x79, 46_certificate.md R320 -/
  | tsAdd (rs1 : Slot)
  /-- TS_QUERY, opcode 0x7A, 46_certificate.md R321 -/
  | tsQuery (imm : Word32)
  /-- OCSP_CHECK, opcode 0x7B, 46_certificate.md R323 -/
  | ocspCheck (rs1 rs2 : Slot) (imm : Word32)
deriving DecidableEq, Repr

end Sys2Proof
end

