-- ==== Sys2Proof/WellFormed.lean ====
section
/-! DEFINITION. The command word taken apart into the fields of 30_encoding.md R91, and which records of
fields are a legal command (R97, read column by column from the table R95). A term of `Instr` is well
formed when its fields are; the operand types of `Instr` make every term so. -/

namespace Sys2Proof

/-- R91: the fields of CMD64. -/
structure Fields where
  imm : Word32 := 0
  reserved : BitVec 1 := 0
  rs5 : BitVec 3 := 0
  rs4 : BitVec 3 := 0
  rs3 : BitVec 3 := 0
  rs2 : BitVec 3 := 0
  rs1 : BitVec 3 := 0
  rd2 : BitVec 3 := 0
  rd : BitVec 3 := 0
  var : BitVec 2 := 0
  opcode : BitVec 8
deriving DecidableEq, Repr

/-- R95: which fields a command uses. -/
structure Uses where
  var : Bool := false
  rd : Bool := false
  rd2 : Bool := false
  rs1 : Bool := false
  rs2 : Bool := false
  rs3 : Bool := false
  rs4 : Bool := false
  rs5 : Bool := false
  imm : Bool := false
deriving DecidableEq, Repr

/-- R97 (a): the assigned opcodes. -/
def assignedOpcodes : List Nat :=
  [0x00, 0x01, 0x02, 0x03, 0x04, 0x10, 0x11, 0x12, 0x13, 0x20, 0x21, 0x22, 0x23,
   0x30, 0x31, 0x32, 0x33, 0x34, 0x35, 0x36, 0x40, 0x41, 0x42, 0x43, 0x44,
   0x50, 0x51, 0x52, 0x53, 0x54, 0x60,
   0x70, 0x71, 0x72, 0x73, 0x74, 0x75, 0x76, 0x77, 0x78, 0x79, 0x7A, 0x7B]

/-- R95, the columns: the fields used by the command with this opcode. -/
def usesOf (op : Nat) : Uses where
  var := [0x10, 0x11, 0x12, 0x13, 0x20, 0x21, 0x22, 0x23].contains op
  rd := !([0x00, 0x04, 0x70, 0x73, 0x74, 0x75, 0x76, 0x77, 0x78, 0x79, 0x7A, 0x7B].contains op)
  rd2 := [0x35, 0x43, 0x54].contains op
  rs1 := !([0x00, 0x01, 0x13, 0x71, 0x72, 0x73, 0x74, 0x7A].contains op)
  rs2 := [0x03, 0x04, 0x11, 0x20, 0x21, 0x22, 0x23, 0x31, 0x32, 0x33, 0x34, 0x35, 0x36,
    0x40, 0x41, 0x42, 0x43, 0x44, 0x50, 0x52, 0x54, 0x76, 0x7B].contains op
  rs3 := [0x23, 0x33, 0x34, 0x35, 0x36, 0x41, 0x43, 0x44].contains op
  rs4 := [0x35, 0x36, 0x43, 0x44].contains op
  rs5 := [0x36, 0x44].contains op
  imm := [0x22, 0x23, 0x40, 0x41, 0x70, 0x71, 0x72, 0x73, 0x74, 0x75, 0x77, 0x78, 0x7A, 0x7B].contains op

/-- R97 (a): the opcode is assigned. -/
def Fields.opcodeOk (f : Fields) : Bool := assignedOpcodes.contains f.opcode.toNat

/-- R97 (b): bit 31 is 0. -/
def Fields.reservedOk (f : Fields) : Bool := f.reserved == 0#1

/-- R97 (c): `var` is 0, 1 or 2, and 0 on a command without variant. -/
def Fields.variantOk (f : Fields) : Bool :=
  if (usesOf f.opcode.toNat).var then f.var != 3#2 else f.var == 0#2

/-- R97 (d): every slot field the command does not use is 0. -/
def Fields.slotsOk (f : Fields) : Bool :=
  let u := usesOf f.opcode.toNat
  (u.rd || f.rd == 0#3) && (u.rd2 || f.rd2 == 0#3) && (u.rs1 || f.rs1 == 0#3) && (u.rs2 || f.rs2 == 0#3) &&
    (u.rs3 || f.rs3 == 0#3) && (u.rs4 || f.rs4 == 0#3) && (u.rs5 || f.rs5 == 0#3)

/-- R97 (e): `imm` is 0 on a command that does not use it. -/
def Fields.immOk (f : Fields) : Bool := (usesOf f.opcode.toNat).imm || f.imm == 0#32

/-- R97: the fields are those of a legal command word. -/
def Fields.wellFormed (f : Fields) : Bool :=
  f.opcodeOk && f.reservedOk && f.variantOk && f.slotsOk && f.immOk

end Sys2Proof
end

