-- ==== Sys2Proof/Decode.lean ====
section
/-! DEFINITION. The decoder of CORE (30_encoding.md R91, R92, R95), total on the 64-bit words and
rejecting by name, and after it the encoder, written from the same table. -/

namespace Sys2Proof

/-- R91: the fields of a command word. -/
def Fields.ofWord (w : Word64) : Fields where
  imm := w.extractLsb' 32 32
  reserved := w.extractLsb' 31 1
  rs5 := w.extractLsb' 28 3
  rs4 := w.extractLsb' 25 3
  rs3 := w.extractLsb' 22 3
  rs2 := w.extractLsb' 19 3
  rs1 := w.extractLsb' 16 3
  rd2 := w.extractLsb' 13 3
  rd := w.extractLsb' 10 3
  var := w.extractLsb' 8 2
  opcode := w.extractLsb' 0 8

/-- R91: the command word with these fields, bit 63 the most significant. -/
def Fields.toWord (f : Fields) : Word64 :=
  f.imm ++ f.reserved ++ f.rs5 ++ f.rs4 ++ f.rs3 ++ f.rs2 ++ f.rs1 ++ f.rd2 ++ f.rd ++ f.var ++ f.opcode

/-- R94: a slot field is a plain slot number. -/
def slotOf (b : BitVec 3) : Slot := b.toFin

/-- R94: the slot field that holds a slot number. -/
def slotBits (i : Slot) : BitVec 3 := BitVec.ofFin i

/-- R93: the variant a `var` field selects; 3 is reserved. -/
def variantOf (b : BitVec 2) : Option Variant :=
  if b = 0#2 then some .sha256 else if b = 1#2 then some .sha384 else if b = 2#2 then some .sha512 else none

/-- R92, R97: why a word is no command. -/
inductive Reject where
  /-- R97 (a): the opcode is not assigned. -/
  | unassignedOpcode
  /-- R97 (b): bit 31 is 1. -/
  | reservedBit
  /-- R97 (c): `var = 3` on a command with variants. -/
  | reservedVariant
  /-- R97 (c): `var ≠ 0` on a command without variant. -/
  | unusedVariant
  /-- R97 (d): a slot field the command does not use is not 0. -/
  | unusedSlot
  /-- R97 (e): `imm ≠ 0` on a command that does not use it. -/
  | unusedImm
deriving DecidableEq, Repr

/-- A row of the command table R95: the opcode, the fields the command uses, and the instruction with
a variant's and the fields' operands (a command without variant ignores the first). -/
structure Row where
  opcode : BitVec 8
  uses : Uses
  build : Variant → Fields → Instr

/-- R95, R96: family system, opcodes 0x00 to 0x04. -/
def rowsSystem : List Row := [
  { opcode := 0x00#8, uses := {  },
    build := fun _ _ => .nop },
  { opcode := 0x01#8, uses := { rd := true },
    build := fun _ f => .slotClear (slotOf f.rd) },
  { opcode := 0x02#8, uses := { rd := true, rs1 := true },
    build := fun _ f => .slotCopy (slotOf f.rd) (slotOf f.rs1) },
  { opcode := 0x03#8, uses := { rd := true, rs1 := true, rs2 := true },
    build := fun _ f => .slotConcat (slotOf f.rd) (slotOf f.rs1) (slotOf f.rs2) },
  { opcode := 0x04#8, uses := { rs1 := true, rs2 := true },
    build := fun _ f => .ctCmp (slotOf f.rs1) (slotOf f.rs2) } ]

/-- R95, R96: family hash, 0x10 to 0x13. -/
def rowsHash : List Row := [
  { opcode := 0x10#8, uses := { var := true, rd := true, rs1 := true },
    build := fun v f => match v with
        | .sha256 => .hashSha256 (slotOf f.rd) (slotOf f.rs1)
        | .sha384 => .hashSha384 (slotOf f.rd) (slotOf f.rs1)
        | .sha512 => .hashSha512 (slotOf f.rd) (slotOf f.rs1) },
  { opcode := 0x11#8, uses := { var := true, rd := true, rs1 := true, rs2 := true },
    build := fun v f => match v with
        | .sha256 => .shaCompressSha256 (slotOf f.rd) (slotOf f.rs1) (slotOf f.rs2)
        | .sha384 => .shaCompressSha384 (slotOf f.rd) (slotOf f.rs1) (slotOf f.rs2)
        | .sha512 => .shaCompressSha512 (slotOf f.rd) (slotOf f.rs1) (slotOf f.rs2) },
  { opcode := 0x12#8, uses := { var := true, rd := true, rs1 := true },
    build := fun v f => match v with
        | .sha256 => .shaPadSha256 (slotOf f.rd) (slotOf f.rs1)
        | .sha384 => .shaPadSha384 (slotOf f.rd) (slotOf f.rs1)
        | .sha512 => .shaPadSha512 (slotOf f.rd) (slotOf f.rs1) },
  { opcode := 0x13#8, uses := { var := true, rd := true },
    build := fun v f => match v with
        | .sha256 => .shaIvSha256 (slotOf f.rd)
        | .sha384 => .shaIvSha384 (slotOf f.rd)
        | .sha512 => .shaIvSha512 (slotOf f.rd) } ]

/-- R95, R96: family MAC and key derivation, 0x20 to 0x23. -/
def rowsMac : List Row := [
  { opcode := 0x20#8, uses := { var := true, rd := true, rs1 := true, rs2 := true },
    build := fun v f => match v with
        | .sha256 => .hmacSha256 (slotOf f.rd) (slotOf f.rs1) (slotOf f.rs2)
        | .sha384 => .hmacSha384 (slotOf f.rd) (slotOf f.rs1) (slotOf f.rs2)
        | .sha512 => .hmacSha512 (slotOf f.rd) (slotOf f.rs1) (slotOf f.rs2) },
  { opcode := 0x21#8, uses := { var := true, rd := true, rs1 := true, rs2 := true },
    build := fun v f => match v with
        | .sha256 => .hkdfExtractSha256 (slotOf f.rd) (slotOf f.rs1) (slotOf f.rs2)
        | .sha384 => .hkdfExtractSha384 (slotOf f.rd) (slotOf f.rs1) (slotOf f.rs2)
        | .sha512 => .hkdfExtractSha512 (slotOf f.rd) (slotOf f.rs1) (slotOf f.rs2) },
  { opcode := 0x22#8, uses := { var := true, rd := true, rs1 := true, rs2 := true, imm := true },
    build := fun v f => match v with
        | .sha256 => .hkdfExpandSha256 (slotOf f.rd) (slotOf f.rs1) (slotOf f.rs2) f.imm
        | .sha384 => .hkdfExpandSha384 (slotOf f.rd) (slotOf f.rs1) (slotOf f.rs2) f.imm
        | .sha512 => .hkdfExpandSha512 (slotOf f.rd) (slotOf f.rs1) (slotOf f.rs2) f.imm },
  { opcode := 0x23#8, uses := { var := true, rd := true, rs1 := true, rs2 := true, rs3 := true, imm := true },
    build := fun v f => match v with
        | .sha256 => .hkdfExpandLabelSha256 (slotOf f.rd) (slotOf f.rs1) (slotOf f.rs2) (slotOf f.rs3) f.imm
        | .sha384 => .hkdfExpandLabelSha384 (slotOf f.rd) (slotOf f.rs1) (slotOf f.rs2) (slotOf f.rs3) f.imm
        | .sha512 => .hkdfExpandLabelSha512 (slotOf f.rd) (slotOf f.rs1) (slotOf f.rs2) (slotOf f.rs3) f.imm } ]

/-- R95, R96: family AES and GCM, 0x30 to 0x36. -/
def rowsAes : List Row := [
  { opcode := 0x30#8, uses := { rd := true, rs1 := true },
    build := fun _ f => .aesKeyexp (slotOf f.rd) (slotOf f.rs1) },
  { opcode := 0x31#8, uses := { rd := true, rs1 := true, rs2 := true },
    build := fun _ f => .aesEnc (slotOf f.rd) (slotOf f.rs1) (slotOf f.rs2) },
  { opcode := 0x32#8, uses := { rd := true, rs1 := true, rs2 := true },
    build := fun _ f => .gf128Mul (slotOf f.rd) (slotOf f.rs1) (slotOf f.rs2) },
  { opcode := 0x33#8, uses := { rd := true, rs1 := true, rs2 := true, rs3 := true },
    build := fun _ f => .ghash (slotOf f.rd) (slotOf f.rs1) (slotOf f.rs2) (slotOf f.rs3) },
  { opcode := 0x34#8, uses := { rd := true, rs1 := true, rs2 := true, rs3 := true },
    build := fun _ f => .aesCtr (slotOf f.rd) (slotOf f.rs1) (slotOf f.rs2) (slotOf f.rs3) },
  { opcode := 0x35#8, uses := { rd := true, rd2 := true, rs1 := true, rs2 := true, rs3 := true, rs4 := true },
    build := fun _ f => .gcmEnc (slotOf f.rd) (slotOf f.rd2) (slotOf f.rs1) (slotOf f.rs2) (slotOf f.rs3) (slotOf f.rs4) },
  { opcode := 0x36#8, uses := { rd := true, rs1 := true, rs2 := true, rs3 := true, rs4 := true, rs5 := true },
    build := fun _ f => .gcmDec (slotOf f.rd) (slotOf f.rs1) (slotOf f.rs2) (slotOf f.rs3) (slotOf f.rs4) (slotOf f.rs5) } ]

/-- R95, R96: family ChaCha20 and Poly1305, 0x40 to 0x44. -/
def rowsChaCha : List Row := [
  { opcode := 0x40#8, uses := { rd := true, rs1 := true, rs2 := true, imm := true },
    build := fun _ f => .chacha20Block (slotOf f.rd) (slotOf f.rs1) (slotOf f.rs2) f.imm },
  { opcode := 0x41#8, uses := { rd := true, rs1 := true, rs2 := true, rs3 := true, imm := true },
    build := fun _ f => .chacha20Xor (slotOf f.rd) (slotOf f.rs1) (slotOf f.rs2) (slotOf f.rs3) f.imm },
  { opcode := 0x42#8, uses := { rd := true, rs1 := true, rs2 := true },
    build := fun _ f => .poly1305 (slotOf f.rd) (slotOf f.rs1) (slotOf f.rs2) },
  { opcode := 0x43#8, uses := { rd := true, rd2 := true, rs1 := true, rs2 := true, rs3 := true, rs4 := true },
    build := fun _ f => .ccpEnc (slotOf f.rd) (slotOf f.rd2) (slotOf f.rs1) (slotOf f.rs2) (slotOf f.rs3) (slotOf f.rs4) },
  { opcode := 0x44#8, uses := { rd := true, rs1 := true, rs2 := true, rs3 := true, rs4 := true, rs5 := true },
    build := fun _ f => .ccpDec (slotOf f.rd) (slotOf f.rs1) (slotOf f.rs2) (slotOf f.rs3) (slotOf f.rs4) (slotOf f.rs5) } ]

/-- R95, R96: family X25519, 0x50 to 0x54. -/
def rowsX25519 : List Row := [
  { opcode := 0x50#8, uses := { rd := true, rs1 := true, rs2 := true },
    build := fun _ f => .x25519 (slotOf f.rd) (slotOf f.rs1) (slotOf f.rs2) },
  { opcode := 0x51#8, uses := { rd := true, rs1 := true },
    build := fun _ f => .x25519Base (slotOf f.rd) (slotOf f.rs1) },
  { opcode := 0x52#8, uses := { rd := true, rs1 := true, rs2 := true },
    build := fun _ f => .gfMul (slotOf f.rd) (slotOf f.rs1) (slotOf f.rs2) },
  { opcode := 0x53#8, uses := { rd := true, rs1 := true },
    build := fun _ f => .gfInv (slotOf f.rd) (slotOf f.rs1) },
  { opcode := 0x54#8, uses := { rd := true, rd2 := true, rs1 := true, rs2 := true },
    build := fun _ f => .ladder (slotOf f.rd) (slotOf f.rd2) (slotOf f.rs1) (slotOf f.rs2) } ]

/-- R95, R96: family DER, 0x60. -/
def rowsDer : List Row := [
  { opcode := 0x60#8, uses := { rd := true, rs1 := true },
    build := fun _ f => .derParse (slotOf f.rd) (slotOf f.rs1) } ]

/-- R95, R96: family certificate_v, 0x70 to 0x7B. -/
def rowsCert : List Row := [
  { opcode := 0x70#8, uses := { rs1 := true, imm := true },
    build := fun _ f => .certParse (slotOf f.rs1) f.imm },
  { opcode := 0x71#8, uses := { rd := true, imm := true },
    build := fun _ f => .certField (slotOf f.rd) f.imm },
  { opcode := 0x72#8, uses := { rd := true, imm := true },
    build := fun _ f => .certSan (slotOf f.rd) f.imm },
  { opcode := 0x73#8, uses := { imm := true },
    build := fun _ f => .certBc f.imm },
  { opcode := 0x74#8, uses := { imm := true },
    build := fun _ f => .certKu f.imm },
  { opcode := 0x75#8, uses := { rs1 := true, imm := true },
    build := fun _ f => .certHostname (slotOf f.rs1) f.imm },
  { opcode := 0x76#8, uses := { rs1 := true, rs2 := true },
    build := fun _ f => .hostnameMatch (slotOf f.rs1) (slotOf f.rs2) },
  { opcode := 0x77#8, uses := { rs1 := true, imm := true },
    build := fun _ f => .certValidity (slotOf f.rs1) f.imm },
  { opcode := 0x78#8, uses := { rs1 := true, imm := true },
    build := fun _ f => .chainValidate (slotOf f.rs1) f.imm },
  { opcode := 0x79#8, uses := { rs1 := true },
    build := fun _ f => .tsAdd (slotOf f.rs1) },
  { opcode := 0x7A#8, uses := { imm := true },
    build := fun _ f => .tsQuery f.imm },
  { opcode := 0x7B#8, uses := { rs1 := true, rs2 := true, imm := true },
    build := fun _ f => .ocspCheck (slotOf f.rs1) (slotOf f.rs2) f.imm } ]

/-- R95: the 43 commands in the table's order. -/
def rows : List Row :=
  rowsSystem ++ rowsHash ++ rowsMac ++ rowsAes ++ rowsChaCha ++ rowsX25519 ++ rowsDer ++ rowsCert

/-- R92: every slot field a row does not use is 0. -/
def Uses.unusedSlotsZero (u : Uses) (f : Fields) : Bool :=
  (u.rd || f.rd == 0#3) && (u.rd2 || f.rd2 == 0#3) && (u.rs1 || f.rs1 == 0#3) && (u.rs2 || f.rs2 == 0#3) &&
    (u.rs3 || f.rs3 == 0#3) && (u.rs4 || f.rs4 == 0#3) && (u.rs5 || f.rs5 == 0#3)

/-- R92: the row's command with the fields as operands, or the reason there is none. -/
def Row.decode (r : Row) (f : Fields) : Except Reject Instr :=
  if f.reserved ≠ 0#1 then .error .reservedBit
  else if !r.uses.var && f.var != 0#2 then .error .unusedVariant
  else if !r.uses.unusedSlotsZero f then .error .unusedSlot
  else if !r.uses.imm && f.imm != 0#32 then .error .unusedImm
  else match variantOf f.var with
    | none => .error .reservedVariant
    | some v => .ok (r.build v f)

/-- R92: decoding, on the fields of the word. -/
def decodeFields (f : Fields) : Except Reject Instr :=
  match rows.find? (fun r => r.opcode == f.opcode) with
  | none => .error .unassignedOpcode
  | some r => r.decode f

/-- R92: decoding, a total function of the 64 bits. -/
def decode (w : Word64) : Except Reject Instr := decodeFields (Fields.ofWord w)

/-- R91, R95: the fields of an instruction's word, every unused field 0. -/
def Instr.fields : Instr → Fields
  | .nop =>
      { opcode := 0x00#8 }
  | .slotClear rd =>
      { opcode := 0x01#8, rd := slotBits rd }
  | .slotCopy rd rs1 =>
      { opcode := 0x02#8, rd := slotBits rd, rs1 := slotBits rs1 }
  | .slotConcat rd rs1 rs2 =>
      { opcode := 0x03#8, rd := slotBits rd, rs1 := slotBits rs1, rs2 := slotBits rs2 }
  | .ctCmp rs1 rs2 =>
      { opcode := 0x04#8, rs1 := slotBits rs1, rs2 := slotBits rs2 }
  | .hashSha256 rd rs1 =>
      { opcode := 0x10#8, var := 0#2, rd := slotBits rd, rs1 := slotBits rs1 }
  | .hashSha384 rd rs1 =>
      { opcode := 0x10#8, var := 1#2, rd := slotBits rd, rs1 := slotBits rs1 }
  | .hashSha512 rd rs1 =>
      { opcode := 0x10#8, var := 2#2, rd := slotBits rd, rs1 := slotBits rs1 }
  | .shaCompressSha256 rd rs1 rs2 =>
      { opcode := 0x11#8, var := 0#2, rd := slotBits rd, rs1 := slotBits rs1, rs2 := slotBits rs2 }
  | .shaCompressSha384 rd rs1 rs2 =>
      { opcode := 0x11#8, var := 1#2, rd := slotBits rd, rs1 := slotBits rs1, rs2 := slotBits rs2 }
  | .shaCompressSha512 rd rs1 rs2 =>
      { opcode := 0x11#8, var := 2#2, rd := slotBits rd, rs1 := slotBits rs1, rs2 := slotBits rs2 }
  | .shaPadSha256 rd rs1 =>
      { opcode := 0x12#8, var := 0#2, rd := slotBits rd, rs1 := slotBits rs1 }
  | .shaPadSha384 rd rs1 =>
      { opcode := 0x12#8, var := 1#2, rd := slotBits rd, rs1 := slotBits rs1 }
  | .shaPadSha512 rd rs1 =>
      { opcode := 0x12#8, var := 2#2, rd := slotBits rd, rs1 := slotBits rs1 }
  | .shaIvSha256 rd =>
      { opcode := 0x13#8, var := 0#2, rd := slotBits rd }
  | .shaIvSha384 rd =>
      { opcode := 0x13#8, var := 1#2, rd := slotBits rd }
  | .shaIvSha512 rd =>
      { opcode := 0x13#8, var := 2#2, rd := slotBits rd }
  | .hmacSha256 rd rs1 rs2 =>
      { opcode := 0x20#8, var := 0#2, rd := slotBits rd, rs1 := slotBits rs1, rs2 := slotBits rs2 }
  | .hmacSha384 rd rs1 rs2 =>
      { opcode := 0x20#8, var := 1#2, rd := slotBits rd, rs1 := slotBits rs1, rs2 := slotBits rs2 }
  | .hmacSha512 rd rs1 rs2 =>
      { opcode := 0x20#8, var := 2#2, rd := slotBits rd, rs1 := slotBits rs1, rs2 := slotBits rs2 }
  | .hkdfExtractSha256 rd rs1 rs2 =>
      { opcode := 0x21#8, var := 0#2, rd := slotBits rd, rs1 := slotBits rs1, rs2 := slotBits rs2 }
  | .hkdfExtractSha384 rd rs1 rs2 =>
      { opcode := 0x21#8, var := 1#2, rd := slotBits rd, rs1 := slotBits rs1, rs2 := slotBits rs2 }
  | .hkdfExtractSha512 rd rs1 rs2 =>
      { opcode := 0x21#8, var := 2#2, rd := slotBits rd, rs1 := slotBits rs1, rs2 := slotBits rs2 }
  | .hkdfExpandSha256 rd rs1 rs2 imm =>
      { opcode := 0x22#8, var := 0#2, rd := slotBits rd, rs1 := slotBits rs1, rs2 := slotBits rs2, imm := imm }
  | .hkdfExpandSha384 rd rs1 rs2 imm =>
      { opcode := 0x22#8, var := 1#2, rd := slotBits rd, rs1 := slotBits rs1, rs2 := slotBits rs2, imm := imm }
  | .hkdfExpandSha512 rd rs1 rs2 imm =>
      { opcode := 0x22#8, var := 2#2, rd := slotBits rd, rs1 := slotBits rs1, rs2 := slotBits rs2, imm := imm }
  | .hkdfExpandLabelSha256 rd rs1 rs2 rs3 imm =>
      { opcode := 0x23#8, var := 0#2, rd := slotBits rd, rs1 := slotBits rs1, rs2 := slotBits rs2, rs3 := slotBits rs3, imm := imm }
  | .hkdfExpandLabelSha384 rd rs1 rs2 rs3 imm =>
      { opcode := 0x23#8, var := 1#2, rd := slotBits rd, rs1 := slotBits rs1, rs2 := slotBits rs2, rs3 := slotBits rs3, imm := imm }
  | .hkdfExpandLabelSha512 rd rs1 rs2 rs3 imm =>
      { opcode := 0x23#8, var := 2#2, rd := slotBits rd, rs1 := slotBits rs1, rs2 := slotBits rs2, rs3 := slotBits rs3, imm := imm }
  | .aesKeyexp rd rs1 =>
      { opcode := 0x30#8, rd := slotBits rd, rs1 := slotBits rs1 }
  | .aesEnc rd rs1 rs2 =>
      { opcode := 0x31#8, rd := slotBits rd, rs1 := slotBits rs1, rs2 := slotBits rs2 }
  | .gf128Mul rd rs1 rs2 =>
      { opcode := 0x32#8, rd := slotBits rd, rs1 := slotBits rs1, rs2 := slotBits rs2 }
  | .ghash rd rs1 rs2 rs3 =>
      { opcode := 0x33#8, rd := slotBits rd, rs1 := slotBits rs1, rs2 := slotBits rs2, rs3 := slotBits rs3 }
  | .aesCtr rd rs1 rs2 rs3 =>
      { opcode := 0x34#8, rd := slotBits rd, rs1 := slotBits rs1, rs2 := slotBits rs2, rs3 := slotBits rs3 }
  | .gcmEnc rd rd2 rs1 rs2 rs3 rs4 =>
      { opcode := 0x35#8, rd := slotBits rd, rd2 := slotBits rd2, rs1 := slotBits rs1, rs2 := slotBits rs2, rs3 := slotBits rs3, rs4 := slotBits rs4 }
  | .gcmDec rd rs1 rs2 rs3 rs4 rs5 =>
      { opcode := 0x36#8, rd := slotBits rd, rs1 := slotBits rs1, rs2 := slotBits rs2, rs3 := slotBits rs3, rs4 := slotBits rs4, rs5 := slotBits rs5 }
  | .chacha20Block rd rs1 rs2 imm =>
      { opcode := 0x40#8, rd := slotBits rd, rs1 := slotBits rs1, rs2 := slotBits rs2, imm := imm }
  | .chacha20Xor rd rs1 rs2 rs3 imm =>
      { opcode := 0x41#8, rd := slotBits rd, rs1 := slotBits rs1, rs2 := slotBits rs2, rs3 := slotBits rs3, imm := imm }
  | .poly1305 rd rs1 rs2 =>
      { opcode := 0x42#8, rd := slotBits rd, rs1 := slotBits rs1, rs2 := slotBits rs2 }
  | .ccpEnc rd rd2 rs1 rs2 rs3 rs4 =>
      { opcode := 0x43#8, rd := slotBits rd, rd2 := slotBits rd2, rs1 := slotBits rs1, rs2 := slotBits rs2, rs3 := slotBits rs3, rs4 := slotBits rs4 }
  | .ccpDec rd rs1 rs2 rs3 rs4 rs5 =>
      { opcode := 0x44#8, rd := slotBits rd, rs1 := slotBits rs1, rs2 := slotBits rs2, rs3 := slotBits rs3, rs4 := slotBits rs4, rs5 := slotBits rs5 }
  | .x25519 rd rs1 rs2 =>
      { opcode := 0x50#8, rd := slotBits rd, rs1 := slotBits rs1, rs2 := slotBits rs2 }
  | .x25519Base rd rs1 =>
      { opcode := 0x51#8, rd := slotBits rd, rs1 := slotBits rs1 }
  | .gfMul rd rs1 rs2 =>
      { opcode := 0x52#8, rd := slotBits rd, rs1 := slotBits rs1, rs2 := slotBits rs2 }
  | .gfInv rd rs1 =>
      { opcode := 0x53#8, rd := slotBits rd, rs1 := slotBits rs1 }
  | .ladder rd rd2 rs1 rs2 =>
      { opcode := 0x54#8, rd := slotBits rd, rd2 := slotBits rd2, rs1 := slotBits rs1, rs2 := slotBits rs2 }
  | .derParse rd rs1 =>
      { opcode := 0x60#8, rd := slotBits rd, rs1 := slotBits rs1 }
  | .certParse rs1 imm =>
      { opcode := 0x70#8, rs1 := slotBits rs1, imm := imm }
  | .certField rd imm =>
      { opcode := 0x71#8, rd := slotBits rd, imm := imm }
  | .certSan rd imm =>
      { opcode := 0x72#8, rd := slotBits rd, imm := imm }
  | .certBc imm =>
      { opcode := 0x73#8, imm := imm }
  | .certKu imm =>
      { opcode := 0x74#8, imm := imm }
  | .certHostname rs1 imm =>
      { opcode := 0x75#8, rs1 := slotBits rs1, imm := imm }
  | .hostnameMatch rs1 rs2 =>
      { opcode := 0x76#8, rs1 := slotBits rs1, rs2 := slotBits rs2 }
  | .certValidity rs1 imm =>
      { opcode := 0x77#8, rs1 := slotBits rs1, imm := imm }
  | .chainValidate rs1 imm =>
      { opcode := 0x78#8, rs1 := slotBits rs1, imm := imm }
  | .tsAdd rs1 =>
      { opcode := 0x79#8, rs1 := slotBits rs1 }
  | .tsQuery imm =>
      { opcode := 0x7A#8, imm := imm }
  | .ocspCheck rs1 rs2 imm =>
      { opcode := 0x7B#8, rs1 := slotBits rs1, rs2 := slotBits rs2, imm := imm }

/-- R91: the word of an instruction. -/
def encode (i : Instr) : Word64 := i.fields.toWord

/-- An instruction is well formed when its fields are a legal command's (R97). -/
def Instr.wellFormed (i : Instr) : Bool := i.fields.wellFormed

/-- The instruction the decoder reads from a table row's word, numbered as the table numbers it: a
command is one 64-bit word (R90), so the low `nbits` bits of `w` are the word, the bits above them 0. -/
def decodeTableWord (nbits w : Nat) : Option Instr :=
  match decode (BitVec.ofNat 64 (w % 2 ^ nbits)) with
  | .ok i => some i
  | .error _ => none

end Sys2Proof
end

