-- ==== Sys2Proof/Config.lean ====
section
/-! DEFINITION. What one instance of CORE fixes: the open parameters of spec 00_scope.md R9 and
92_eei_decisions.md section 5, within their stated bounds and otherwise unknown, and the free values
for what the spec leaves unstated. The opaque constants have no body: nothing can evaluate them. -/

namespace Sys2Proof.Config

/-- How far SLOT_MAX lies above its least value 2^20; below 2^32 - 2^20, so SLOT_MAX ≤ 2^32 - 1 (R9). -/
opaque slotMaxExcess : Fin 4293918720

/-- R9: the greatest length of a slot, 2^20 ≤ SLOT_MAX ≤ 2^32 - 1 (log 4). -/
def slotMax : Nat := slotMaxExcess.val + 1048576

/-- How far TS_CAP lies above its least value 1 (R9). -/
opaque tsCapExcess : Nat

/-- R9: the capacity of the trust store, TS_CAP ≥ 1 (log 4). -/
def tsCap : Nat := tsCapExcess + 1

/-- How far DER_MAX_DEPTH lies above its least value 8 (R9). -/
opaque derDepthExcess : Nat

/-- R9: the greatest nesting depth of the recognizer, DER_MAX_DEPTH ≥ 8 (log 4). -/
def derMaxDepth : Nat := derDepthExcess + 8

/-- How far DER_MAX_NODES lies above its least value 64 (R9). -/
opaque derNodesExcess : Nat

/-- R9: the greatest number of elements in one parse, DER_MAX_NODES ≥ 64 (log 4). -/
def derMaxNodes : Nat := derNodesExcess + 64

/-- DESIGN CHOICE, log 5: byte 2 of a DER_PARSE record (R278) for a depth that one byte cannot hold,
a free value per depth. -/
opaque freeDepthByte : Nat → Byte

/-- DESIGN CHOICE, log 6: RETVAL for a count that 32 bits cannot hold, a free value per count. -/
opaque freeCountWord : Nat → Word32

/-- R8: the greatest certificate chain length CHAIN_MAX. -/
def chainMax : Nat := 10

end Sys2Proof.Config
end

