-- ==== Sys2Proof/Machine/State.lean ====
section
/-! DEFINITION. The complete state of CORE as plain data (10_state.md R20 to R47), the model's two own
fields (`schedule`, `reply`), the reasons a step can stop, and the state after reset. -/

namespace Sys2Proof.Machine

open Sys2Proof

/-- The reasons the machine stops with a fault. CORE itself has none (60_exceptions.md R370). -/
inductive Fault where
  /-- Raised by a host step whose `SlotWrite` is longer than SLOT_MAX: 20_memory.md R60 says it "cannot be
  expressed" and "the model gives it no step". Safe: such a transaction never happens. -/
  | slotWriteTooLong
deriving DecidableEq, Repr

/-- The reasons a step is refused. -/
inductive Refusal where
  /-- Raised by an arm of `exec` whose instruction has no meaning yet. Safe. -/
  | notModelled (mnemonic : String)
deriving DecidableEq, Repr

/-- 60_exceptions.md R372: the complete list of result codes. -/
inductive ResultCode where
  | ok
  | authFail
  | parseError
  | validationFail
  | illegalCmd
  | operandAlias
  | badLength
  | badImm
  | overflow
  | badIndex
  | tsFull
  | noCert
deriving DecidableEq, Repr

/-- R33: one attribute of a name, `(oid, value)` as content octets. -/
structure NameAttr where
  oid : Bytes
  value : Bytes
deriving DecidableEq, Repr

/-- R33: one extension, `(oid, critical, value)`. -/
structure Extension where
  oid : Bytes
  critical : Bool
  value : Bytes
deriving DecidableEq, Repr

/-- R33: a parsed certificate record. The timestamps are 64-bit two's-complement words. -/
structure CertRecord where
  version : Word32
  serialNumber : Bytes
  issuer : List NameAttr
  subject : List NameAttr
  notBefore : Word64
  notAfter : Word64
  publicKeyAlgorithm : Bytes
  publicKeyBytes : Bytes
  extensions : List Extension
  signatureAlgorithm : Bytes
  signatureBytes : Bytes
  tbsCertificateBytes : Bytes
  rawBytes : Bytes
deriving DecidableEq, Repr

/-- 45_der.md R270: an ASN.1 element without its children: identifier, content, and the two offsets
this spec adds (`hdr` of the tag byte, `voff` of the first content byte). -/
structure DerNode where
  tagClass : BitVec 2
  constructed : Bool
  tag : Nat
  hdr : Nat
  voff : Nat
  value : Bytes
deriving DecidableEq, Repr

/-- R36: the working registers of `sha256_core`; `work` is `a..h, T1, T2`. -/
structure Sha256Unit where
  H : Vector Word32 8 := Vector.replicate 8 0
  W : Vector Word32 64 := Vector.replicate 64 0
  work : Vector Word32 10 := Vector.replicate 10 0
  t : Nat := 0
  block : Nat := 0
deriving DecidableEq, Repr

/-- R37: the working registers of `sha512_core`, which serve `sha384_core` too. -/
structure Sha512Unit where
  H : Vector Word64 8 := Vector.replicate 8 0
  W : Vector Word64 80 := Vector.replicate 80 0
  work : Vector Word64 10 := Vector.replicate 10 0
  t : Nat := 0
  block : Nat := 0
deriving DecidableEq, Repr

/-- R38: the working registers of the MAC and key-derivation units. -/
structure MacUnit where
  K0 : BitVec 1024 := 0
  inner : BitVec 512 := 0
  T : BitVec 512 := 0
  i : Byte := 0
  out : Bytes := []
deriving DecidableEq, Repr

/-- R39: the working registers of the AES units. -/
structure AesUnit where
  RK : BitVec 1408 := 0
  st : BitVec 128 := 0
  rnd : Nat := 0
deriving DecidableEq, Repr

/-- R40: the working registers of `ghash_multiplier` and `ctr_mode_wrapper`. -/
structure GcmUnit where
  Hk : BitVec 128 := 0
  Y : BitVec 128 := 0
  Z : BitVec 128 := 0
  V : BitVec 128 := 0
  CB : BitVec 128 := 0
  KS : BitVec 128 := 0
  J0 : BitVec 128 := 0
deriving DecidableEq, Repr

/-- R41: the working registers of `chacha20_core`. -/
structure ChaChaUnit where
  init : Vector Word32 16 := Vector.replicate 16 0
  x : Vector Word32 16 := Vector.replicate 16 0
  dround : Nat := 0
  ctr : Word32 := 0
deriving DecidableEq, Repr

/-- R41: the working registers of `poly1305_core`. -/
structure PolyUnit where
  r : BitVec 128 := 0
  s : BitVec 128 := 0
  acc : Nat := 0
  otk : BitVec 256 := 0
deriving DecidableEq, Repr

/-- R42: the working registers of `x25519_scalar_mult`; the field elements are integers. -/
structure X25519Unit where
  k : BitVec 256 := 0
  x1 : Nat := 0
  x2 : Nat := 0
  z2 : Nat := 0
  x3 : Nat := 0
  z3 : Nat := 0
  A : Nat := 0
  AA : Nat := 0
  B : Nat := 0
  BB : Nat := 0
  E : Nat := 0
  C : Nat := 0
  D : Nat := 0
  DA : Nat := 0
  CB : Nat := 0
  swap : Bool := false
  t : Nat := 0
deriving DecidableEq, Repr

/-- R43: the working registers of `der_tlv_parser`; the parse result as a list of (depth, node) in
pre-order, 0 being no element. -/
structure DerUnit where
  pos : Nat := 0
  ends : List Nat := []
  nodes : Nat := 0
  element : Option DerNode := none
  tree : List (Nat × DerNode) := []
deriving DecidableEq, Repr

/-- R44: the working registers of `certificate_v`. -/
structure CertUnit where
  tree : List (Nat × DerNode) := []
  record : Option CertRecord := none
  i : Nat := 0
  fingerprint : BitVec 256 := 0
deriving DecidableEq, Repr

/-- R35: every unit's working registers. Their cleared value is the default of each field. -/
structure Units where
  sha256 : Sha256Unit := {}
  sha512 : Sha512Unit := {}
  mac : MacUnit := {}
  aes : AesUnit := {}
  gcm : GcmUnit := {}
  chacha : ChaChaUnit := {}
  poly : PolyUnit := {}
  x25519 : X25519Unit := {}
  der : DerUnit := {}
  cert : CertUnit := {}
deriving DecidableEq, Repr

/-- 20_memory.md R60: the host transactions. A slot number above 7 cannot be expressed. -/
inductive HostTx where
  | csrRead (n : Word32)
  | csrWrite (n v : Word32)
  | slotWrite (i : Slot) (b : Bytes)
  | slotRead (i : Slot)
  | reset
deriving DecidableEq, Repr

/-- 00_scope.md R10, 60_exceptions.md R381: a turn of one of the two agents (log 1). -/
inductive Turn where
  | host (t : HostTx)
  | core
deriving DecidableEq, Repr

/-- R60: what a host transaction returns. -/
inductive Reply where
  | nothing
  | word (v : Word32)
  | bytes (b : Bytes)
deriving DecidableEq, Repr

/-- 10_state.md R20: the state of CORE; `schedule` and `reply` are the model's own (log 1, log 2). -/
structure State where
  slots : Vector Bytes 8
  cmdHi : Word32
  cmdReg : Word64
  busy : Bool
  done : Bool
  proto : Bool
  result : ResultCode
  retval : Word32
  errinfo : Word32
  ct : Vector (Option CertRecord) 16
  ts : List Bytes
  units : Units
  schedule : List Turn
  reply : Reply
deriving DecidableEq, Repr

/-- 10_state.md R47: every piece of state after reset. `schedule` and `reply` are empty (DESIGN CHOICE,
log 1 and log 2). -/
def State.reset : State where
  slots := Vector.replicate 8 []
  cmdHi := 0
  cmdReg := 0
  busy := false
  done := false
  proto := false
  result := .ok
  retval := 0
  errinfo := 0
  ct := Vector.replicate 16 none
  ts := []
  units := {}
  schedule := []
  reply := .nothing

end Sys2Proof.Machine
end

