-- ==== Sys2Proof/Machine/Flags.lean ====
section
/-! DEFINITION. What CORE has in place of flags (10_state.md R28, R31): the STATUS word and the control
registers as the host reads them, the result codes and what a failure records (60_exceptions.md R372 to R375). -/

namespace Sys2Proof.Machine

open Sys2Proof

/-- R372: the 8-bit code of a result. -/
def ResultCode.code : ResultCode → BitVec 8
  | .ok => 0x00#8
  | .authFail => 0x01#8
  | .parseError => 0x02#8
  | .validationFail => 0x03#8
  | .illegalCmd => 0x10#8
  | .operandAlias => 0x11#8
  | .badLength => 0x12#8
  | .badImm => 0x13#8
  | .overflow => 0x14#8
  | .badIndex => 0x15#8
  | .tsFull => 0x16#8
  | .noCert => 0x17#8

/-- R374: the reasons of a VALIDATION_FAIL. -/
inductive Reason where
  | chainTooLong
  | outsideValidity
  | notCa
  | emptyChain
  | missingCert
  | revoked
  | ocspExpired
deriving DecidableEq, Repr

/-- R374: the number of a reason. -/
def Reason.code : Reason → Word32
  | .chainTooLong => 1
  | .outsideValidity => 2
  | .notCa => 3
  | .emptyChain => 4
  | .missingCert => 5
  | .revoked => 6
  | .ocspExpired => 7

/-- R372: a failure with what it records: the operand number of a BAD_LENGTH, the reason and chain
position of a VALIDATION_FAIL, the RETVAL of a TS_FULL. -/
inductive Failure where
  | authFail
  | parseError
  | validationFail (reason : Reason) (position : Nat)
  | illegalCmd
  | operandAlias
  | badLength (operand : Nat)
  | badImm
  | overflow
  | badIndex
  | tsFull (size : Word32)
  | noCert
deriving DecidableEq, Repr

/-- R372: the result code of a failure. -/
def Failure.result : Failure → ResultCode
  | .authFail => .authFail
  | .parseError => .parseError
  | .validationFail _ _ => .validationFail
  | .illegalCmd => .illegalCmd
  | .operandAlias => .operandAlias
  | .badLength _ => .badLength
  | .badImm => .badImm
  | .overflow => .overflow
  | .badIndex => .badIndex
  | .tsFull _ => .tsFull
  | .noCert => .noCert

/-- R375: RETVAL after a failure, 0 except for VALIDATION_FAIL (the reason) and TS_FULL (the size). -/
def Failure.retval : Failure → Word32
  | .validationFail reason _ => reason.code
  | .tsFull size => size
  | _ => 0

/-- R375: ERRINFO after a failure, 0 except for BAD_LENGTH (the operand) and VALIDATION_FAIL (the position). -/
def Failure.errinfo : Failure → Word32
  | .validationFail _ position => BitVec.ofNat 32 position
  | .badLength operand => BitVec.ofNat 32 operand
  | _ => 0

/-- R376 (a): a failure empties the named destinations, except ILLEGAL_CMD and OPERAND_ALIAS. -/
def Failure.clearsDests : Failure → Bool
  | .illegalCmd => false
  | .operandAlias => false
  | _ => true

/-- A count or length as RETVAL carries it (R29); a free value for a count of 2^32 or more (DESIGN
CHOICE, log 6). -/
def countWord (n : Nat) : Word32 := if n < 4294967296 then BitVec.ofNat 32 n else Config.freeCountWord n

/-- One bit of a register. -/
def bit (b : Bool) : BitVec 1 := if b then 1#1 else 0#1

/-- R28: STATUS, reserved bits 0. -/
def State.status (s : State) : Word32 :=
  0#16 ++ s.result.code ++ 0#5 ++ bit s.proto ++ bit s.done ++ bit s.busy

/-- R25, R61: the value `CsrRead(n)` returns; CMD_LO and every number above 4 read as 0. -/
def State.csr (s : State) (n : Word32) : Word32 :=
  if n = 1#32 then s.cmdHi
  else if n = 2#32 then s.status
  else if n = 3#32 then s.retval
  else if n = 4#32 then s.errinfo
  else 0#32

end Sys2Proof.Machine
end

