-- ==== Sys2Proof/Machine/Ops.lean ====
section
/-! DEFINITION. The named operations over the state: slots, certificate table, completion of a command with
OK (60_exceptions.md R377) and with a failure (R376, R382: "trap entry"), the issue of the next command
(20_memory.md R64, R383: "trap return"), the command in CMDREG, and the host transactions (R60 to R65). -/

namespace Sys2Proof.Machine

open Sys2Proof

/-- R77: operand fetch, the whole sequence of a slot. -/
def State.slot (s : State) (i : Slot) : Bytes := s.slots[i]

/-- R77: result write, the whole sequence of a slot replaced. -/
def State.setSlot (s : State) (i : Slot) (b : Bytes) : State := { s with slots := s.slots.set i b }

/-- Several result writes, in order. -/
def State.setSlots (s : State) (writes : List (Slot × Bytes)) : State :=
  writes.foldl (fun s w => s.setSlot w.1 w.2) s

/-- R376 (a): every named destination set to the empty sequence. -/
def State.clearSlots (s : State) (dests : List Slot) : State :=
  s.setSlots (dests.map fun d => (d, []))

/-- R32: entry `idx` of the certificate table, none when invalid or when there is no such entry. -/
def State.cert (s : State) (idx : Nat) : Option CertRecord := s.ct[idx]?.join

/-- R32: entry `idx` of the certificate table replaced whole. -/
def State.setCert (s : State) (idx : Nat) (r : Option CertRecord) : State :=
  { s with ct := s.ct.setIfInBounds idx r }

/-- 10_state.md R30 (4) to (6): RESULT, RETVAL and ERRINFO written, every working register cleared,
BUSY down and DONE up. -/
def State.finish (s : State) (result : ResultCode) (retval errinfo : Word32) : State :=
  { s with result := result, retval := retval, errinfo := errinfo, units := {}, busy := false, done := true }

/-- R376, R382: completion with a failure, the named destinations `dests` emptied where R376 (a) says so. -/
def State.raise (s : State) (dests : List Slot) (f : Failure) : State :=
  (if f.clearsDests then s.clearSlots dests else s).finish f.result f.retval f.errinfo

/-- R377: completion with OK, the destination slots and RETVAL written. -/
def State.succeed (s : State) (writes : List (Slot × Bytes)) (retval : Word32) : State :=
  (s.setSlots writes).finish .ok retval 0

/-- R64, R383: the issue of a command by writing `v` to CMD_LO. -/
def State.issue (s : State) (v : Word32) : State :=
  { s with
    cmdReg := s.cmdHi ++ v, busy := true, done := false, result := .ok, retval := 0, errinfo := 0 }

/-- R30 (1): the command in CMDREG, decoded. -/
def State.command (s : State) : Except Reject Instr := decode s.cmdReg

/-- R30 (1), R97: the `Execute` step of a word that is no command. -/
def State.illegal (s : State) : State := s.raise [] .illegalCmd

/-- R60, R79: longer than SLOT_MAX. The least value of SLOT_MAX (R9) is tried first, so that lengths up to
it compare without knowing SLOT_MAX. -/
def overSlotMax (n : Nat) : Bool := decide (1048576 < n) && decide (Config.slotMax < n)

/-- R65: a transaction that is not allowed while BUSY = 1. -/
def State.protocolError (s : State) (reply : Reply) : State := { s with proto := true, reply := reply }

/-- R61 to R65, 70_reset_and_hazards.md R410: the effect of a host transaction. -/
def State.host (s : State) : HostTx → Host.Outcome State Fault Refusal
  | .csrRead n => .next { s with reply := .word (s.csr n) }
  | .csrWrite n v =>
    if s.busy then .next (s.protocolError .nothing)
    else if n = 0#32 then .next { s.issue v with reply := .nothing }
    else if n = 1#32 then .next { s with cmdHi := v, reply := .nothing }
    else .next { s with reply := .nothing }
  | .slotWrite i b =>
    if overSlotMax b.length then .fault .slotWriteTooLong
    else if s.busy then .next (s.protocolError .nothing)
    else .next { s.setSlot i b with reply := .nothing }
  | .slotRead i =>
    if s.busy then .next (s.protocolError (.bytes []))
    else .next { s with reply := .bytes (s.slot i) }
  | .reset => .next { State.reset with schedule := s.schedule }

end Sys2Proof.Machine
end

