-- ==== Sys2Proof/Machine/Operands.lean ====
section
/-! DEFINITION. Operand forms and the checks every command shares (20_memory.md R77 to R79, 60_exceptions.md
R373, R380). A check answers none where it passes and the failure it raises where it does not; a command
lists its checks in the order of R380. -/

namespace Sys2Proof.Machine

open Sys2Proof

/-- R380 step 2: OPERAND_ALIAS. -/
def checkAlias (rd rd2 : Slot) : Option Failure := if rd = rd2 then some .operandAlias else none

/-- R380 step 3: BAD_IMM unless the immediate is in its range. -/
def checkImm (inRange : Bool) : Option Failure := if inRange then none else some .badImm

/-- R299, R380 step 3: BAD_INDEX for a certificate index of 16 or more. -/
def checkIndex (idx : Nat) : Option Failure := if idx < 16 then none else some .badIndex

/-- R373, R380 step 4: operand `k` has exactly the length `n`. -/
def checkLength (k : Nat) (b : Bytes) (n : Nat) : Option Failure :=
  if b.length = n then none else some (.badLength k)

/-- R373, R380 step 4: operand `k` has at most the length `n`. -/
def checkMaxLength (k : Nat) (b : Bytes) (n : Nat) : Option Failure :=
  if b.length ≤ n then none else some (.badLength k)

/-- R79, R380 step 6: a result of `n` bytes fits a slot. -/
def checkFits (n : Nat) : Option Failure := if overSlotMax n then some .overflow else none

/-- R380: the first failure in the order of the checks. -/
def firstFailure : List (Option Failure) → Option Failure
  | [] => none
  | some f :: _ => some f
  | none :: r => firstFailure r

/-- R30, R380: a command with the destinations `dests`: the first failing check is raised, else `body` runs. -/
def State.run (s : State) (dests : List Slot) (checks : List (Option Failure)) (body : Unit → State) :
    Host.Outcome State Fault Refusal :=
  match firstFailure checks with
  | some f => .next (s.raise dests f)
  | none => .next (body ())

/-- R299, R380 step 5: the record `CT[idx]` of a reading command, or NO_CERT. -/
def State.withCert (s : State) (dests : List Slot) (idx : Nat) (body : CertRecord → State) : State :=
  match s.cert idx with
  | none => s.raise dests .noCert
  | some r => body r

/-- R79, R380 step 8: a result whose length depends on the data: OVERFLOW if it does not fit, else written. -/
def State.deliver (s : State) (rd : Slot) (out : Bytes) (retval : Word32) : State :=
  if overSlotMax out.length then s.raise [rd] .overflow else s.succeed [(rd, out)] retval

/-- A boolean result in RETVAL (R29). -/
def boolWord (b : Bool) : Word32 := if b then 1 else 0

/-- R77, R316: the 8-byte check time `now`, big-endian two's complement. -/
def timeOperand (b : Bytes) : Word64 := BitVec.ofNat 64 (be b)

/-- R322: a stored timestamp, compared as signed numbers (R15). -/
def timeLe (a b : Word64) : Bool := BitVec.sle a b

end Sys2Proof.Machine
end

