-- ==== Sys2Proof/Machine/System.lean ====
section
/-! DEFINITION. The system commands (47_system.md R350 to R354). -/

namespace Sys2Proof.Machine

open Sys2Proof

/-- R354: the accumulated difference `d` of two sequences of one length, every byte visited. -/
def diffBytes : Bytes → Bytes → Byte
  | x :: a, y :: b => (x ^^^ y) ||| diffBytes a b
  | _, _ => 0#8

/-- R354: `ct_equal(a, b)`. -/
def ctEqual (a b : Bytes) : Bool := if a.length = b.length then diffBytes a b == 0#8 else false

/-- R350. -/
def execNop (s : State) : Host.Outcome State Fault Refusal :=
  s.run [] [] fun _ => s.succeed [] 0

/-- R351. -/
def execSlotClear (rd : Slot) (s : State) : Host.Outcome State Fault Refusal :=
  s.run [rd] [] fun _ => s.succeed [(rd, [])] 0

/-- R352. -/
def execSlotCopy (rd rs1 : Slot) (s : State) : Host.Outcome State Fault Refusal :=
  s.run [rd] [] fun _ => s.succeed [(rd, s.slot rs1)] (countWord (s.slot rs1).length)

/-- R353. -/
def execSlotConcat (rd rs1 rs2 : Slot) (s : State) : Host.Outcome State Fault Refusal :=
  let n := (s.slot rs1).length + (s.slot rs2).length
  s.run [rd] [checkFits n] fun _ => s.succeed [(rd, s.slot rs1 ++ s.slot rs2)] (countWord n)

/-- R354. -/
def execCtCmp (rs1 rs2 : Slot) (s : State) : Host.Outcome State Fault Refusal :=
  s.run [] [] fun _ => s.succeed [] (boolWord (ctEqual (s.slot rs1) (s.slot rs2)))

end Sys2Proof.Machine
end

