-- ==== Sys2Proof/Machine/Aes.lean ====
section
/-! DEFINITION. AES-128 and GCM (42_aes_gcm.md R170 to R191). -/

namespace Sys2Proof.Machine

open Sys2Proof

/-- R171: SBOX, entry `a` at index `a`. -/
def sbox : List Byte := [
  0x63#8, 0x7c#8, 0x77#8, 0x7b#8, 0xf2#8, 0x6b#8, 0x6f#8, 0xc5#8, 0x30#8, 0x01#8, 0x67#8, 0x2b#8, 0xfe#8, 0xd7#8, 0xab#8, 0x76#8,
  0xca#8, 0x82#8, 0xc9#8, 0x7d#8, 0xfa#8, 0x59#8, 0x47#8, 0xf0#8, 0xad#8, 0xd4#8, 0xa2#8, 0xaf#8, 0x9c#8, 0xa4#8, 0x72#8, 0xc0#8,
  0xb7#8, 0xfd#8, 0x93#8, 0x26#8, 0x36#8, 0x3f#8, 0xf7#8, 0xcc#8, 0x34#8, 0xa5#8, 0xe5#8, 0xf1#8, 0x71#8, 0xd8#8, 0x31#8, 0x15#8,
  0x04#8, 0xc7#8, 0x23#8, 0xc3#8, 0x18#8, 0x96#8, 0x05#8, 0x9a#8, 0x07#8, 0x12#8, 0x80#8, 0xe2#8, 0xeb#8, 0x27#8, 0xb2#8, 0x75#8,
  0x09#8, 0x83#8, 0x2c#8, 0x1a#8, 0x1b#8, 0x6e#8, 0x5a#8, 0xa0#8, 0x52#8, 0x3b#8, 0xd6#8, 0xb3#8, 0x29#8, 0xe3#8, 0x2f#8, 0x84#8,
  0x53#8, 0xd1#8, 0x00#8, 0xed#8, 0x20#8, 0xfc#8, 0xb1#8, 0x5b#8, 0x6a#8, 0xcb#8, 0xbe#8, 0x39#8, 0x4a#8, 0x4c#8, 0x58#8, 0xcf#8,
  0xd0#8, 0xef#8, 0xaa#8, 0xfb#8, 0x43#8, 0x4d#8, 0x33#8, 0x85#8, 0x45#8, 0xf9#8, 0x02#8, 0x7f#8, 0x50#8, 0x3c#8, 0x9f#8, 0xa8#8,
  0x51#8, 0xa3#8, 0x40#8, 0x8f#8, 0x92#8, 0x9d#8, 0x38#8, 0xf5#8, 0xbc#8, 0xb6#8, 0xda#8, 0x21#8, 0x10#8, 0xff#8, 0xf3#8, 0xd2#8,
  0xcd#8, 0x0c#8, 0x13#8, 0xec#8, 0x5f#8, 0x97#8, 0x44#8, 0x17#8, 0xc4#8, 0xa7#8, 0x7e#8, 0x3d#8, 0x64#8, 0x5d#8, 0x19#8, 0x73#8,
  0x60#8, 0x81#8, 0x4f#8, 0xdc#8, 0x22#8, 0x2a#8, 0x90#8, 0x88#8, 0x46#8, 0xee#8, 0xb8#8, 0x14#8, 0xde#8, 0x5e#8, 0x0b#8, 0xdb#8,
  0xe0#8, 0x32#8, 0x3a#8, 0x0a#8, 0x49#8, 0x06#8, 0x24#8, 0x5c#8, 0xc2#8, 0xd3#8, 0xac#8, 0x62#8, 0x91#8, 0x95#8, 0xe4#8, 0x79#8,
  0xe7#8, 0xc8#8, 0x37#8, 0x6d#8, 0x8d#8, 0xd5#8, 0x4e#8, 0xa9#8, 0x6c#8, 0x56#8, 0xf4#8, 0xea#8, 0x65#8, 0x7a#8, 0xae#8, 0x08#8,
  0xba#8, 0x78#8, 0x25#8, 0x2e#8, 0x1c#8, 0xa6#8, 0xb4#8, 0xc6#8, 0xe8#8, 0xdd#8, 0x74#8, 0x1f#8, 0x4b#8, 0xbd#8, 0x8b#8, 0x8a#8,
  0x70#8, 0x3e#8, 0xb5#8, 0x66#8, 0x48#8, 0x03#8, 0xf6#8, 0x0e#8, 0x61#8, 0x35#8, 0x57#8, 0xb9#8, 0x86#8, 0xc1#8, 0x1d#8, 0x9e#8,
  0xe1#8, 0xf8#8, 0x98#8, 0x11#8, 0x69#8, 0xd9#8, 0x8e#8, 0x94#8, 0x9b#8, 0x1e#8, 0x87#8, 0xe9#8, 0xce#8, 0x55#8, 0x28#8, 0xdf#8,
  0x8c#8, 0xa1#8, 0x89#8, 0x0d#8, 0xbf#8, 0xe6#8, 0x42#8, 0x68#8, 0x41#8, 0x99#8, 0x2d#8, 0x0f#8, 0xb0#8, 0x54#8, 0xbb#8, 0x16#8 ]

/-- R171: one substitution. -/
def subByte (x : Byte) : Byte := sbox.getD x.toNat 0

/-- R172: multiply by 2 in GF(2^8). -/
def xtime (x : Byte) : Byte := (x <<< 1) ^^^ (if x.getLsbD 7 then 0x1b#8 else 0x00#8)

/-- R172: multiply by 3 in GF(2^8). -/
def mul3 (x : Byte) : Byte := xtime x ^^^ x

/-- R173: RCON[0..10]; entry 0 is not used. -/
def rcon : List Byte :=
  [0x00#8, 0x01#8, 0x02#8, 0x04#8, 0x08#8, 0x10#8, 0x20#8, 0x40#8, 0x80#8, 0x1b#8, 0x36#8]

/-- R175: a 4-byte word of the key schedule. -/
structure KeyWord where
  b0 : Byte
  b1 : Byte
  b2 : Byte
  b3 : Byte
deriving DecidableEq, Repr

/-- R175: the word of four bytes. -/
def toKeyWord (b : Bytes) : KeyWord :=
  { b0 := b.getD 0 0, b1 := b.getD 1 0, b2 := b.getD 2 0, b3 := b.getD 3 0 }

/-- R175: the bytes of a word. -/
def ofKeyWord (t : KeyWord) : Bytes := [t.b0, t.b1, t.b2, t.b3]

/-- R175: bytewise exclusive or. -/
def xorKeyWord (t u : KeyWord) : KeyWord :=
  { b0 := t.b0 ^^^ u.b0, b1 := t.b1 ^^^ u.b1, b2 := t.b2 ^^^ u.b2, b3 := t.b3 ^^^ u.b3 }

/-- R175: word-rotate, substitute, Rcon into the first byte, for word `i`, a multiple of 4. -/
def rotSubRcon (i : Nat) (t : KeyWord) : KeyWord :=
  { b0 := subByte t.b1 ^^^ rcon.getD (i / 4) 0, b1 := subByte t.b2, b2 := subByte t.b3, b3 := subByte t.b0 }

/-- R175: word `i` added in front of the words so far, which come newest first: `w[i-1]` at 0, `w[i-4]` at 3. -/
def keyStep (ws : List KeyWord) (i : Nat) : List KeyWord :=
  let z : KeyWord := ⟨0, 0, 0, 0⟩
  let t := ws.getD 0 z
  xorKeyWord (ws.getD 3 z) (if i % 4 = 0 then rotSubRcon i t else t) :: ws

/-- R175: `aes_key_expand(key)`, 176 bytes. -/
def aesKeyExpand (key : Bytes) : Bytes :=
  let w0 := [toKeyWord (slice key 12 16), toKeyWord (slice key 8 12), toKeyWord (slice key 4 8),
    toKeyWord (slice key 0 4)]
  (((List.range' 4 40).foldl keyStep w0).reverse).flatMap ofKeyWord

/-- R174: `AddRoundKey(st, j)`. -/
def addRoundKey (rk st : Bytes) (j : Nat) : Bytes := xorBytes st (slice rk (16 * j) (16 * j + 16))

/-- R177: SubBytes. -/
def subBytes (st : Bytes) : Bytes := st.map subByte

/-- R177: ShiftRows, `new[r + 4c] = st[r + 4((c + r) mod 4)]`. -/
def shiftRows (st : Bytes) : Bytes :=
  (List.range 16).map fun i => st.getD (i % 4 + 4 * ((i / 4 + i % 4) % 4)) 0

/-- R177: MixColumns on the column `t`. -/
def mixColumn (t : KeyWord) : Bytes :=
  [xtime t.b0 ^^^ mul3 t.b1 ^^^ t.b2 ^^^ t.b3,
   t.b0 ^^^ xtime t.b1 ^^^ mul3 t.b2 ^^^ t.b3,
   t.b0 ^^^ t.b1 ^^^ xtime t.b2 ^^^ mul3 t.b3,
   mul3 t.b0 ^^^ t.b1 ^^^ t.b2 ^^^ xtime t.b3]

/-- R177: MixColumns. -/
def mixColumns (st : Bytes) : Bytes :=
  [0, 1, 2, 3].flatMap fun c => mixColumn (toKeyWord (slice st (4 * c) (4 * c + 4)))

/-- R177: one of the rounds 1 to 9. -/
def aesRound (rk st : Bytes) (rnd : Nat) : Bytes := addRoundKey rk (mixColumns (shiftRows (subBytes st))) rnd

/-- R177: `aes_encrypt(RK, in)`. -/
def aesEncrypt (rk blk : Bytes) : Bytes :=
  let st := [1, 2, 3, 4, 5, 6, 7, 8, 9].foldl (aesRound rk) (addRoundKey rk blk 0)
  addRoundKey rk (shiftRows (subBytes st)) 10

/-- R177: `aes(key, in)`. -/
def aes (key blk : Bytes) : Bytes := aesEncrypt (aesKeyExpand key) blk

/-- R181: one step of the multiplication for the coefficient of `x^i` of `x`, on the pair `(z, v)`. -/
def gf128Step (x : BitVec 128) (zv : BitVec 128 × BitVec 128) (i : Nat) : BitVec 128 × BitVec 128 :=
  (if x.getLsbD (127 - i) then zv.1 ^^^ zv.2 else zv.1,
   if zv.2.getLsbD 0 then (zv.2 >>> 1) ^^^ (0xe1#128 <<< 120) else zv.2 >>> 1)

/-- R181: the product on 128-bit integers `be(X)`, `be(Y)`. -/
def gf128Product (x y : BitVec 128) : BitVec 128 := ((List.range 128).foldl (gf128Step x) (0, y)).1

/-- R180: a 16-byte block as the integer `be(X)`. -/
def blockWord (b : Bytes) : BitVec 128 := BitVec.ofNat 128 (be b)

/-- R181: `gf128_mul(X, Y)`. -/
def gf128Mul (x y : Bytes) : Bytes := toBe (gf128Product (blockWord x) (blockWord y)).toNat 16

/-- R183: the blocks that GHASH absorbs. -/
def ghashData (aad c : Bytes) : Bytes := pad16 aad ++ pad16 c ++ (toBe (8 * aad.length) 8 ++ toBe (8 * c.length) 8)

/-- R183: `ghash(H, A, C)`. -/
def ghash (h aad c : Bytes) : Bytes :=
  (chunks 16 (ghashData aad c)).foldl (fun y d => gf128Mul (xorBytes y d) h) (zeros 16)

/-- R185: `inc32(CB)`. -/
def inc32 (cb : Bytes) : Bytes := slice cb 0 12 ++ toBe ((be (slice cb 12 16) + 1) % 2 ^ 32) 4

/-- R186: the chunks of the data in order under the counter blocks from `cb` on. -/
def ctrChunks (rk : Bytes) : Bytes → List Bytes → Bytes
  | _, [] => []
  | cb, d :: ds => xorBytes d (aesEncrypt rk cb) ++ ctrChunks rk (inc32 cb) ds

/-- R186: `aes_ctr(key, ICB, data)`. -/
def aesCtr (key icb data : Bytes) : Bytes := ctrChunks (aesKeyExpand key) icb (chunks 16 data)

/-- R188: `J0`, the IV and counter 1. -/
def gcmJ0 (iv : Bytes) : Bytes := iv ++ [0x00#8, 0x00#8, 0x00#8, 0x01#8]

/-- R188: `gcm_tag` with `H = aes(key, 0^128)`. -/
def gcmTag (key iv aad c : Bytes) : Bytes :=
  xorBytes (ghash (aes key (zeros 16)) aad c) (aes key (gcmJ0 iv))

/-- R188: the ciphertext, or the plaintext, under counter 2 on. -/
def gcmCtr (key iv data : Bytes) : Bytes := aesCtr key (inc32 (gcmJ0 iv)) data

/-- R188: `gcm_encrypt`, ciphertext and tag. -/
def gcmEncrypt (key iv aad p : Bytes) : Bytes × Bytes :=
  let c := gcmCtr key iv p
  (c, gcmTag key iv aad c)

/-- R188: `gcm_decrypt`, none on a tag mismatch. -/
def gcmDecrypt (key iv aad c tag : Bytes) : Option Bytes :=
  if ctEqual (gcmTag key iv aad c) tag then some (gcmCtr key iv c) else none

/-- R176. -/
def execAesKeyexp (rd rs1 : Slot) (s : State) : Host.Outcome State Fault Refusal :=
  s.run [rd] [checkLength 1 (s.slot rs1) 16] fun _ => s.succeed [(rd, aesKeyExpand (s.slot rs1))] 0

/-- R178. -/
def execAesEnc (rd rs1 rs2 : Slot) (s : State) : Host.Outcome State Fault Refusal :=
  s.run [rd] [checkLength 1 (s.slot rs1) 16, checkLength 2 (s.slot rs2) 16] fun _ =>
    s.succeed [(rd, aes (s.slot rs1) (s.slot rs2))] 0

/-- R182. -/
def execGf128Mul (rd rs1 rs2 : Slot) (s : State) : Host.Outcome State Fault Refusal :=
  s.run [rd] [checkLength 1 (s.slot rs1) 16, checkLength 2 (s.slot rs2) 16] fun _ =>
    s.succeed [(rd, gf128Mul (s.slot rs1) (s.slot rs2))] 0

/-- R184. -/
def execGhash (rd rs1 rs2 rs3 : Slot) (s : State) : Host.Outcome State Fault Refusal :=
  s.run [rd] [checkLength 1 (s.slot rs1) 16] fun _ =>
    s.succeed [(rd, ghash (s.slot rs1) (s.slot rs2) (s.slot rs3))] 0

/-- R187. -/
def execAesCtr (rd rs1 rs2 rs3 : Slot) (s : State) : Host.Outcome State Fault Refusal :=
  s.run [rd] [checkLength 1 (s.slot rs1) 16, checkLength 2 (s.slot rs2) 16] fun _ =>
    s.succeed [(rd, aesCtr (s.slot rs1) (s.slot rs2) (s.slot rs3))] 0

/-- R189. -/
def execGcmEnc (rd rd2 rs1 rs2 rs3 rs4 : Slot) (s : State) : Host.Outcome State Fault Refusal :=
  s.run [rd, rd2] [checkAlias rd rd2, checkLength 1 (s.slot rs1) 16, checkLength 2 (s.slot rs2) 12] fun _ =>
    let r := gcmEncrypt (s.slot rs1) (s.slot rs2) (s.slot rs3) (s.slot rs4)
    s.succeed [(rd, r.1), (rd2, r.2)] 0

/-- R190. -/
def execGcmDec (rd rs1 rs2 rs3 rs4 rs5 : Slot) (s : State) : Host.Outcome State Fault Refusal :=
  s.run [rd]
    [checkLength 1 (s.slot rs1) 16, checkLength 2 (s.slot rs2) 12, checkLength 5 (s.slot rs5) 16] fun _ =>
    match gcmDecrypt (s.slot rs1) (s.slot rs2) (s.slot rs3) (s.slot rs4) (s.slot rs5) with
    | none => s.raise [rd] .authFail
    | some p => s.succeed [(rd, p)] 0

end Sys2Proof.Machine
end

