-- ==== Sys2Proof/Machine/Der.lean ====
section
/-! DEFINITION. The DER decoder (45_der.md R270 to R279). -/

namespace Sys2Proof.Machine

open Sys2Proof

/-- R270: an ASN.1 element, its node and its children. -/
inductive Element where
  | mk (node : DerNode) (children : List Element)
deriving Repr

/-- R270: everything of an element but its children. -/
def Element.node : Element → DerNode
  | .mk n _ => n

/-- R270: the children in order. -/
def Element.children : Element → List Element
  | .mk _ c => c

/-- R270: the content octets. -/
def Element.value (e : Element) : Bytes := e.node.value

/-- R270: the number of content bytes. -/
def Element.length (e : Element) : Nat := e.node.value.length

/-- 46_certificate.md, notation: `e` is `(c, k, t)`. -/
def Element.is (e : Element) (tagClass : BitVec 2) (constructed : Bool) (tag : Nat) : Bool :=
  e.node.tagClass == tagClass && e.node.constructed == constructed && e.node.tag == tag

/-- R272: the multi-byte tag number with the value `tag` so far; `n` is the number of bytes read. Answers
the tag, the number of bytes read and the bytes after it. -/
def parseLongTag : Nat → Nat → Bytes → Option (Nat × Nat × Bytes)
  | _, _, [] => none
  | tag, n, c :: rest =>
    if 2 ^ 25 ≤ tag then none
    else
      let tag' := tag * 128 + c.toNat % 128
      if c.toNat < 128 then some (tag', n + 1, rest) else parseLongTag tag' (n + 1) rest

/-- R273: the length field. Answers the length, the number of bytes read and the bytes after it. -/
def parseLength : Bytes → Option (Nat × Nat × Bytes)
  | [] => none
  | l0 :: rest =>
    if l0.toNat < 128 then some (l0.toNat, 1, rest)
    else
      let n := l0.toNat % 128
      if n = 0 ∨ 4 < n then none
      else if rest.length < n then none
      else some (be (rest.take n), 1 + n, rest.drop n)

/-- R271 to R273: an element's header at offset `off` of the buffer, where `bs` is `buf[off..end)`. Answers the
node and the bytes from its content's end to `end`. -/
def parseHeader (off : Nat) (bs : Bytes) : Option (DerNode × Bytes) :=
  match bs with
  | [] => none
  | b0 :: r0 =>
    match (if b0.toNat % 32 = 31 then parseLongTag 0 0 r0 else some (b0.toNat % 32, 0, r0)) with
    | none => none
    | some (tag, tagBytes, r1) =>
      match parseLength r1 with
      | none => none
      | some (len, lenBytes, r2) =>
        if r2.length < len then none
        else
          some ({ tagClass := b0.extractLsb' 6 2, constructed := b0.getLsbD 5, tag := tag, hdr := off,
                  voff := off + 1 + tagBytes + lenBytes, value := r2.take len }, r2.drop len)

/-- R276: the depth limit. The least value of DER_MAX_DEPTH (R9) is tried first. -/
def tooDeep (depth : Nat) : Bool := decide (8 ≤ depth) && decide (Config.derMaxDepth ≤ depth)

/-- R276: the element limit, for the number of elements created including the one being started. The least
value of DER_MAX_NODES (R9) is tried first. -/
def tooMany (nodes : Nat) : Bool := decide (64 < nodes) && decide (Config.derMaxNodes < nodes)

/-- R274, R275: `parse_list` on `bs = buf[off..end)` at `depth`, with `nodes` elements created so far in this
top-level parse; answers the elements and the count after them. Every call takes at least the two bytes of a
header or ends, so `bs.length + 1` calls in depth suffice (`fuel`, log 13). -/
def parseList : Nat → Nat → Bytes → Nat → Nat → Option (List Element × Nat)
  | 0, _, _, _, _ => none
  | _ + 1, _, [], _, nodes => some ([], nodes)
  | fuel + 1, off, b :: bs, depth, nodes =>
    if tooDeep depth || tooMany (nodes + 1) then none
    else
      match parseHeader off (b :: bs) with
      | none => none
      | some (node, rest) =>
        match (if node.constructed then parseList fuel node.voff node.value (depth + 1) (nodes + 1)
               else some ([], nodes + 1)) with
        | none => none
        | some (children, nodes') =>
          match parseList fuel (node.voff + node.value.length) rest depth nodes' with
          | none => none
          | some (siblings, nodes'') => some (.mk node children :: siblings, nodes'')

/-- R275: the top-level parse. -/
def parseDer (buf : Bytes) : Option (List Element) := (parseList (buf.length + 1) 0 buf 0 0).map (·.1)

mutual
/-- R278: an element of depth `d` and its subtree in pre-order, each node with its depth. -/
def Element.preorder (d : Nat) : Element → List (Nat × DerNode)
  | .mk n c => (d, n) :: preorderList (d + 1) c
/-- R278: sibling elements of depth `d` and their subtrees in pre-order. -/
def preorderList (d : Nat) : List Element → List (Nat × DerNode)
  | [] => []
  | e :: es => e.preorder d ++ preorderList d es
end

/-- R278, byte 2 of a record; a free value for a depth that does not fit the byte (DESIGN CHOICE, log 5). -/
def depthByte (depth : Nat) : Byte := if depth < 256 then BitVec.ofNat 8 depth else Config.freeDepthByte depth

/-- R278: the 16-byte record of an element. -/
def nodeRecord (dn : Nat × DerNode) : Bytes :=
  [dn.2.tagClass.setWidth 8, (if dn.2.constructed then 1#8 else 0#8), depthByte dn.1, 0#8] ++
    toBe dn.2.tag 4 ++ toBe dn.2.voff 4 ++ toBe dn.2.value.length 4

/-- R278: DER_PARSE. -/
def execDerParse (rd rs1 : Slot) (s : State) : Host.Outcome State Fault Refusal :=
  s.run [rd] [] fun _ =>
    match parseDer (s.slot rs1) with
    | none => s.raise [rd] .parseError
    | some es =>
      let nodes := preorderList 0 es
      s.deliver rd (nodes.flatMap nodeRecord) (countWord nodes.length)

end Sys2Proof.Machine
end

