-- ==== Sys2Proof/Machine/Hash.lean ====
section
/-! DEFINITION. The hash units (40_hash.md R120 to R136). -/

namespace Sys2Proof.Machine

open Sys2Proof

/-- R121: the eight state words of a hash, or the eight working variables of a round, in the order `a..h`. -/
structure Eight (w : Nat) where
  a : BitVec w
  b : BitVec w
  c : BitVec w
  d : BitVec w
  e : BitVec w
  f : BitVec w
  g : BitVec w
  h : BitVec w
deriving DecidableEq, Repr

/-- R121: block length in bytes. -/
def blockLen : Variant → Nat
  | .sha256 => 64
  | .sha384 => 128
  | .sha512 => 128

/-- R121: length field of the padding in bytes. -/
def lengthField : Variant → Nat
  | .sha256 => 8
  | .sha384 => 16
  | .sha512 => 16

/-- R121: digest length in bytes. -/
def hashLen : Variant → Nat
  | .sha256 => 32
  | .sha384 => 48
  | .sha512 => 64

/-- R131: length of the eight state words in bytes. -/
def stateLen : Variant → Nat
  | .sha256 => 32
  | .sha384 => 64
  | .sha512 => 64

/-- R122: the length of the padded message for a message of `n` bytes. -/
def paddedLen (v : Variant) (n : Nat) : Nat := blockLen v * ((n + lengthField v) / blockLen v + 1)

/-- R122: the number of zero bytes, `(B - 1 - Lb - n) mod B`. -/
def padZeros (v : Variant) (n : Nat) : Nat :=
  (2 * blockLen v - 1 - lengthField v - n % blockLen v) % blockLen v

/-- R122: `pad(v, m)`. -/
def shaPad (v : Variant) (m : Bytes) : Bytes :=
  m ++ [0x80#8] ++ zeros (padZeros v m.length) ++ toBe (8 * m.length) (lengthField v)

/-- R123: Ch. -/
def ch {w : Nat} (x y z : BitVec w) : BitVec w := (x &&& y) ^^^ (~~~x &&& z)

/-- R123: Maj. -/
def maj {w : Nat} (x y z : BitVec w) : BitVec w := (x &&& y) ^^^ (x &&& z) ^^^ (y &&& z)

/-- R12: rotate right. -/
def rotr {w : Nat} (x : BitVec w) (n : Nat) : BitVec w := (x >>> n) ||| (x <<< (w - n))

/-- R123: Σ0 for SHA-256. -/
def bigSigma0W32 (x : Word32) : Word32 := rotr x 2 ^^^ rotr x 13 ^^^ rotr x 22

/-- R123: Σ1 for SHA-256. -/
def bigSigma1W32 (x : Word32) : Word32 := rotr x 6 ^^^ rotr x 11 ^^^ rotr x 25

/-- R123: σ0 for SHA-256. -/
def smallSigma0W32 (x : Word32) : Word32 := rotr x 7 ^^^ rotr x 18 ^^^ (x >>> 3)

/-- R123: σ1 for SHA-256. -/
def smallSigma1W32 (x : Word32) : Word32 := rotr x 17 ^^^ rotr x 19 ^^^ (x >>> 10)

/-- R123: Σ0 for SHA-384 and SHA-512. -/
def bigSigma0W64 (x : Word64) : Word64 := rotr x 28 ^^^ rotr x 34 ^^^ rotr x 39

/-- R123: Σ1 for SHA-384 and SHA-512. -/
def bigSigma1W64 (x : Word64) : Word64 := rotr x 14 ^^^ rotr x 18 ^^^ rotr x 41

/-- R123: σ0 for SHA-384 and SHA-512. -/
def smallSigma0W64 (x : Word64) : Word64 := rotr x 1 ^^^ rotr x 8 ^^^ (x >>> 7)

/-- R123: σ1 for SHA-384 and SHA-512. -/
def smallSigma1W64 (x : Word64) : Word64 := rotr x 19 ^^^ rotr x 61 ^^^ (x >>> 6)

/-- R124: IV256. -/
def iv256 : Eight 32 where
  a := 0x6a09e667#32
  b := 0xbb67ae85#32
  c := 0x3c6ef372#32
  d := 0xa54ff53a#32
  e := 0x510e527f#32
  f := 0x9b05688c#32
  g := 0x1f83d9ab#32
  h := 0x5be0cd19#32

/-- R124: K256. -/
def k256 : List Word32 := [
  0x428a2f98#32, 0x71374491#32, 0xb5c0fbcf#32, 0xe9b5dba5#32, 0x3956c25b#32, 0x59f111f1#32, 0x923f82a4#32, 0xab1c5ed5#32,
  0xd807aa98#32, 0x12835b01#32, 0x243185be#32, 0x550c7dc3#32, 0x72be5d74#32, 0x80deb1fe#32, 0x9bdc06a7#32, 0xc19bf174#32,
  0xe49b69c1#32, 0xefbe4786#32, 0x0fc19dc6#32, 0x240ca1cc#32, 0x2de92c6f#32, 0x4a7484aa#32, 0x5cb0a9dc#32, 0x76f988da#32,
  0x983e5152#32, 0xa831c66d#32, 0xb00327c8#32, 0xbf597fc7#32, 0xc6e00bf3#32, 0xd5a79147#32, 0x06ca6351#32, 0x14292967#32,
  0x27b70a85#32, 0x2e1b2138#32, 0x4d2c6dfc#32, 0x53380d13#32, 0x650a7354#32, 0x766a0abb#32, 0x81c2c92e#32, 0x92722c85#32,
  0xa2bfe8a1#32, 0xa81a664b#32, 0xc24b8b70#32, 0xc76c51a3#32, 0xd192e819#32, 0xd6990624#32, 0xf40e3585#32, 0x106aa070#32,
  0x19a4c116#32, 0x1e376c08#32, 0x2748774c#32, 0x34b0bcb5#32, 0x391c0cb3#32, 0x4ed8aa4a#32, 0x5b9cca4f#32, 0x682e6ff3#32,
  0x748f82ee#32, 0x78a5636f#32, 0x84c87814#32, 0x8cc70208#32, 0x90befffa#32, 0xa4506ceb#32, 0xbef9a3f7#32, 0xc67178f2#32 ]

/-- R125: IV512. -/
def iv512 : Eight 64 where
  a := 0x6a09e667f3bcc908#64
  b := 0xbb67ae8584caa73b#64
  c := 0x3c6ef372fe94f82b#64
  d := 0xa54ff53a5f1d36f1#64
  e := 0x510e527fade682d1#64
  f := 0x9b05688c2b3e6c1f#64
  g := 0x1f83d9abfb41bd6b#64
  h := 0x5be0cd19137e2179#64

/-- R125: IV384. -/
def iv384 : Eight 64 where
  a := 0xcbbb9d5dc1059ed8#64
  b := 0x629a292a367cd507#64
  c := 0x9159015a3070dd17#64
  d := 0x152fecd8f70e5939#64
  e := 0x67332667ffc00b31#64
  f := 0x8eb44a8768581511#64
  g := 0xdb0c2e0d64f98fa7#64
  h := 0x47b5481dbefa4fa4#64

/-- R125: K512. -/
def k512 : List Word64 := [
  0x428a2f98d728ae22#64, 0x7137449123ef65cd#64, 0xb5c0fbcfec4d3b2f#64, 0xe9b5dba58189dbbc#64,
  0x3956c25bf348b538#64, 0x59f111f1b605d019#64, 0x923f82a4af194f9b#64, 0xab1c5ed5da6d8118#64,
  0xd807aa98a3030242#64, 0x12835b0145706fbe#64, 0x243185be4ee4b28c#64, 0x550c7dc3d5ffb4e2#64,
  0x72be5d74f27b896f#64, 0x80deb1fe3b1696b1#64, 0x9bdc06a725c71235#64, 0xc19bf174cf692694#64,
  0xe49b69c19ef14ad2#64, 0xefbe4786384f25e3#64, 0x0fc19dc68b8cd5b5#64, 0x240ca1cc77ac9c65#64,
  0x2de92c6f592b0275#64, 0x4a7484aa6ea6e483#64, 0x5cb0a9dcbd41fbd4#64, 0x76f988da831153b5#64,
  0x983e5152ee66dfab#64, 0xa831c66d2db43210#64, 0xb00327c898fb213f#64, 0xbf597fc7beef0ee4#64,
  0xc6e00bf33da88fc2#64, 0xd5a79147930aa725#64, 0x06ca6351e003826f#64, 0x142929670a0e6e70#64,
  0x27b70a8546d22ffc#64, 0x2e1b21385c26c926#64, 0x4d2c6dfc5ac42aed#64, 0x53380d139d95b3df#64,
  0x650a73548baf63de#64, 0x766a0abb3c77b2a8#64, 0x81c2c92e47edaee6#64, 0x92722c851482353b#64,
  0xa2bfe8a14cf10364#64, 0xa81a664bbc423001#64, 0xc24b8b70d0f89791#64, 0xc76c51a30654be30#64,
  0xd192e819d6ef5218#64, 0xd69906245565a910#64, 0xf40e35855771202a#64, 0x106aa07032bbd1b8#64,
  0x19a4c116b8d2d0c8#64, 0x1e376c085141ab53#64, 0x2748774cdf8eeb99#64, 0x34b0bcb5e19b48a8#64,
  0x391c0cb3c5c95a63#64, 0x4ed8aa4ae3418acb#64, 0x5b9cca4f7763e373#64, 0x682e6ff3d6b2b8a3#64,
  0x748f82ee5defb2fc#64, 0x78a5636f43172f60#64, 0x84c87814a1f0ab72#64, 0x8cc702081a6439ec#64,
  0x90befffa23631e28#64, 0xa4506cebde82bde9#64, 0xbef9a3f7b2c67915#64, 0xc67178f2e372532b#64,
  0xca273eceea26619c#64, 0xd186b8c721c0c207#64, 0xeada7dd6cde0eb1e#64, 0xf57d4f7fee6ed178#64,
  0x06f067aa72176fba#64, 0x0a637dc5a2c898a6#64, 0x113f9804bef90dae#64, 0x1b710b35131c471b#64,
  0x28db77f523047d84#64, 0x32caab7b40c72493#64, 0x3c9ebe0a15c9bebc#64, 0x431d67c49c100d4c#64,
  0x4cc5d4becb3e42b6#64, 0x597f299cfc657e2a#64, 0x5fcb6fab3ad6faec#64, 0x6c44198c4a475817#64 ]

/-- R126, R127: the big-endian words of a block. -/
def loadWords (w : Nat) (blk : Bytes) : List (BitVec w) := (chunks (w / 8) blk).map fun c => BitVec.ofNat w (be c)

/-- R126, R127: `n` more words of the message schedule; the words so far come newest first, so `W[t-2]`,
`W[t-7]`, `W[t-15]`, `W[t-16]` are at 1, 6, 14, 15. -/
def scheduleFrom {w : Nat} (s0 s1 : BitVec w → BitVec w) : Nat → List (BitVec w) → List (BitVec w)
  | 0, r => r
  | n + 1, r =>
    scheduleFrom s0 s1 n ((s1 (r.getD 1 0) + r.getD 6 0 + s0 (r.getD 14 0) + r.getD 15 0) :: r)

/-- R126, R127: `W[0..n)` for a block, `n ≥ 16`. -/
def messageSchedule {w : Nat} (s0 s1 : BitVec w → BitVec w) (n : Nat) (blk : Bytes) : List (BitVec w) :=
  (scheduleFrom s0 s1 (n - 16) (loadWords w blk).reverse).reverse

/-- R126, R127: one round with the constant `k` and the schedule word `x`. -/
def shaRound {w : Nat} (S0 S1 : BitVec w → BitVec w) (v : Eight w) (k x : BitVec w) : Eight w :=
  let t1 := v.h + S1 v.e + ch v.e v.f v.g + k + x
  let t2 := S0 v.a + maj v.a v.b v.c
  { a := t1 + t2, b := v.a, c := v.b, d := v.c, e := v.d + t1, f := v.e, g := v.f, h := v.g }

/-- R126, R127: the rounds in order, then the words of `H` added. -/
def shaRounds {w : Nat} (S0 S1 : BitVec w → BitVec w) (K W : List (BitVec w)) (H : Eight w) : Eight w :=
  let v := (K.zip W).foldl (fun v kx => shaRound S0 S1 v kx.1 kx.2) H
  { a := H.a + v.a, b := H.b + v.b, c := H.c + v.c, d := H.d + v.d,
    e := H.e + v.e, f := H.f + v.f, g := H.g + v.g, h := H.h + v.h }

/-- R126: `compress256(H, blk)`. -/
def compress256 (H : Eight 32) (blk : Bytes) : Eight 32 :=
  shaRounds bigSigma0W32 bigSigma1W32 k256 (messageSchedule smallSigma0W32 smallSigma1W32 64 blk) H

/-- R127: `compress512(H, blk)`. -/
def compress512 (H : Eight 64) (blk : Bytes) : Eight 64 :=
  shaRounds bigSigma0W64 bigSigma1W64 k512 (messageSchedule smallSigma0W64 smallSigma1W64 80 blk) H

/-- R131, R133, R134: the eight words as bytes, each big-endian. -/
def storeWords {w : Nat} (H : Eight w) : Bytes :=
  [H.a, H.b, H.c, H.d, H.e, H.f, H.g, H.h].flatMap fun x => toBe x.toNat (w / 8)

/-- R131: eight big-endian words read from bytes. -/
def loadEight (w : Nat) (b : Bytes) : Eight w :=
  let x := loadWords w b
  { a := x.getD 0 0, b := x.getD 1 0, c := x.getD 2 0, d := x.getD 3 0,
    e := x.getD 4 0, f := x.getD 5 0, g := x.getD 6 0, h := x.getD 7 0 }

/-- R133, R134: the initial state of a variant as bytes. -/
def ivBytes : Variant → Bytes
  | .sha256 => storeWords iv256
  | .sha384 => storeWords iv384
  | .sha512 => storeWords iv512

/-- R131: one compression on states held as bytes. -/
def compressBytes (v : Variant) (state blk : Bytes) : Bytes :=
  match v with
  | .sha256 => storeWords (compress256 (loadEight 32 state) blk)
  | .sha384 => storeWords (compress512 (loadEight 64 state) blk)
  | .sha512 => storeWords (compress512 (loadEight 64 state) blk)

/-- R134: `hash(v, m)`. -/
def shaHash (v : Variant) (m : Bytes) : Bytes :=
  let blocks := chunks (blockLen v) (shaPad v m)
  let D := match v with
    | .sha256 => storeWords (blocks.foldl compress256 iv256)
    | .sha384 => storeWords (blocks.foldl compress512 iv384)
    | .sha512 => storeWords (blocks.foldl compress512 iv512)
  D.take (hashLen v)

/-- R128 to R130: HASH. -/
def hashCommand (v : Variant) (rd rs1 : Slot) (s : State) : Host.Outcome State Fault Refusal :=
  s.run [rd] [] fun _ => s.succeed [(rd, shaHash v (s.slot rs1))] 0

/-- R131: SHA_COMPRESS. -/
def compressCommand (v : Variant) (rd rs1 rs2 : Slot) (s : State) : Host.Outcome State Fault Refusal :=
  s.run [rd] [checkLength 1 (s.slot rs1) (stateLen v), checkLength 2 (s.slot rs2) (blockLen v)] fun _ =>
    s.succeed [(rd, compressBytes v (s.slot rs1) (s.slot rs2))] 0

/-- R132: SHA_PAD. -/
def padCommand (v : Variant) (rd rs1 : Slot) (s : State) : Host.Outcome State Fault Refusal :=
  let n := paddedLen v (s.slot rs1).length
  s.run [rd] [checkFits n] fun _ => s.succeed [(rd, shaPad v (s.slot rs1))] (countWord (n / blockLen v))

/-- R133: SHA_IV. -/
def ivCommand (v : Variant) (rd : Slot) (s : State) : Host.Outcome State Fault Refusal :=
  s.run [rd] [] fun _ => s.succeed [(rd, ivBytes v)] 0

/-- R128. -/
def execHashSha256 (rd rs1 : Slot) (s : State) : Host.Outcome State Fault Refusal :=
  hashCommand .sha256 rd rs1 s

/-- R129. -/
def execHashSha384 (rd rs1 : Slot) (s : State) : Host.Outcome State Fault Refusal :=
  hashCommand .sha384 rd rs1 s

/-- R130. -/
def execHashSha512 (rd rs1 : Slot) (s : State) : Host.Outcome State Fault Refusal :=
  hashCommand .sha512 rd rs1 s

/-- R131. -/
def execShaCompressSha256 (rd rs1 rs2 : Slot) (s : State) : Host.Outcome State Fault Refusal :=
  compressCommand .sha256 rd rs1 rs2 s

/-- R131. -/
def execShaCompressSha384 (rd rs1 rs2 : Slot) (s : State) : Host.Outcome State Fault Refusal :=
  compressCommand .sha384 rd rs1 rs2 s

/-- R131. -/
def execShaCompressSha512 (rd rs1 rs2 : Slot) (s : State) : Host.Outcome State Fault Refusal :=
  compressCommand .sha512 rd rs1 rs2 s

/-- R132. -/
def execShaPadSha256 (rd rs1 : Slot) (s : State) : Host.Outcome State Fault Refusal :=
  padCommand .sha256 rd rs1 s

/-- R132. -/
def execShaPadSha384 (rd rs1 : Slot) (s : State) : Host.Outcome State Fault Refusal :=
  padCommand .sha384 rd rs1 s

/-- R132. -/
def execShaPadSha512 (rd rs1 : Slot) (s : State) : Host.Outcome State Fault Refusal :=
  padCommand .sha512 rd rs1 s

/-- R133. -/
def execShaIvSha256 (rd : Slot) (s : State) : Host.Outcome State Fault Refusal :=
  ivCommand .sha256 rd s

/-- R133. -/
def execShaIvSha384 (rd : Slot) (s : State) : Host.Outcome State Fault Refusal :=
  ivCommand .sha384 rd s

/-- R133. -/
def execShaIvSha512 (rd : Slot) (s : State) : Host.Outcome State Fault Refusal :=
  ivCommand .sha512 rd s

end Sys2Proof.Machine
end

