-- ==== Sys2Proof/Machine/Cert.lean ====
section
/-! DEFINITION. The certificate unit (46_certificate.md R299 to R324): parser, accessors, hostnames, validity,
chains, trust store, OCSP decision. -/

namespace Sys2Proof.Machine

open Sys2Proof

/-- R302: `alg_oid(e)`. -/
def algOid (e : Element) : Option Bytes :=
  if e.is 0 true 16 then
    match e.children with
    | c :: _ => if c.is 0 false 6 then some c.value else none
    | [] => none
  else none

/-- R302: the version of an explicit `[0]` element. -/
def certVersion (v : Element) : Option Word32 :=
  match v.children with
  | c :: _ =>
    if c.is 0 false 2 && 1 ≤ c.length && c.length ≤ 4 then some (BitVec.ofNat 32 ((be c.value + 1) % 2 ^ 32))
    else none
  | [] => none

/-- R304: one attribute of a relative distinguished name. -/
def nameAttr (e : Element) : Option NameAttr :=
  if e.is 0 true 16 then
    match e.children with
    | t :: v :: _ => if t.is 0 false 6 then some { oid := t.value, value := v.value } else none
    | _ => none
  else none

/-- R304: one relative distinguished name. -/
def relativeName (e : Element) : Option (List NameAttr) :=
  if e.is 0 true 17 then e.children.mapM nameAttr else none

/-- R304: `name(e)`. -/
def nameOf (e : Element) : Option (List NameAttr) :=
  if e.is 0 true 16 then (e.children.mapM relativeName).map List.flatten else none

/-- R305: the value of an ASCII digit. -/
def digit (c : Byte) : Option Nat := if 0x30 ≤ c.toNat ∧ c.toNat ≤ 0x39 then some (c.toNat - 0x30) else none

/-- R305: the decimal number of the first `n` digits of a list. -/
def decimal (ds : List Nat) : Nat := ds.foldl (fun v d => 10 * v + d) 0

/-- R305: `days_from_civil(y, m, d)`; `/` rounds down (the divisors are positive). -/
def daysFromCivil (y m d : Int) : Int :=
  let y := if m ≤ 2 then y - 1 else y
  let era := y / 400
  let yoe := y - 400 * era
  let doy := (153 * (m + (if m > 2 then -3 else 9)) + 2) / 5 + d - 1
  let doe := 365 * yoe + yoe / 4 - yoe / 100 + doy
  146097 * era + doe - 719468

/-- R305: the timestamp of the fields after the year, `MMDDHHMMSS`, and of the year; none out of range. -/
def timestamp (year : Nat) (ds : List Nat) : Option Word64 :=
  let month := decimal (ds.take 2)
  let day := decimal ((ds.drop 2).take 2)
  let hour := decimal ((ds.drop 4).take 2)
  let minute := decimal ((ds.drop 6).take 2)
  let second := decimal ((ds.drop 8).take 2)
  if 1 ≤ month ∧ month ≤ 12 ∧ 1 ≤ day ∧ day ≤ 31 ∧ hour ≤ 23 ∧ minute ≤ 59 ∧ second ≤ 59 then
    some (BitVec.ofInt 64
      (86400 * daysFromCivil year month day + 3600 * hour + 60 * minute + second))
  else none

/-- R305: the digits of a time string of `n` bytes that ends in `Z`. -/
def timeDigits (n : Nat) (b : Bytes) : Option (List Nat) :=
  if b.length = n ∧ b.getLast? = some 0x5a#8 then b.dropLast.mapM digit else none

/-- R305: the year of a UTCTime. -/
def utcYear (yy : Nat) : Nat := if yy < 50 then 2000 + yy else 1900 + yy

/-- R305: `time(e)`. -/
def timeOf (e : Element) : Option Word64 :=
  if e.is 0 false 23 then
    (timeDigits 13 e.value).bind fun ds => timestamp (utcYear (decimal (ds.take 2))) (ds.drop 2)
  else if e.is 0 false 24 then
    (timeDigits 15 e.value).bind fun ds => timestamp (decimal (ds.take 4)) (ds.drop 4)
  else none

/-- R306: `bits(e)`. -/
def bitsOf (e : Element) : Option Bytes :=
  if e.is 0 false 3 && 1 ≤ e.length then some (e.value.drop 1) else none

/-- R306: the value child of an extension. -/
def extensionValue (oid : Bytes) (critical : Bool) (v : Element) : Option Extension :=
  if v.is 0 false 4 then some { oid := oid, critical := critical, value := v.value } else none

/-- R306: one extension. -/
def extensionOf (x : Element) : Option Extension :=
  if x.is 0 true 16 then
    match x.children with
    | o :: c :: rest =>
      if o.is 0 false 6 then
        if c.is 0 false 1 then
          match c.value, rest with
          | b :: _, v :: _ => extensionValue o.value (b != 0#8) v
          | _, _ => none
        else extensionValue o.value false c
      else none
    | _ => none
  else none

/-- R306: the extensions of a `[3]` element. -/
def extensionsOf (e : Element) : Option (List Extension) :=
  match e.children with
  | s :: _ => if s.is 0 true 16 then s.children.mapM extensionOf else none
  | [] => none

/-- R301: the version and the remaining children of the TBSCertificate. -/
def takeVersion (ch : List Element) : Option (Word32 × List Element) :=
  match ch with
  | v :: rest => if v.is 2 true 0 then (certVersion v).map fun n => (n, rest) else some (1, ch)
  | [] => some (1, ch)

/-- R301: the validity element's two times. -/
def validityOf (e : Element) : Option (Word64 × Word64) :=
  if e.is 0 true 16 then
    match e.children with
    | a :: b :: _ => do
      let nb ← timeOf a
      let na ← timeOf b
      pure (nb, na)
    | _ => none
  else none

/-- R301: the subjectPublicKeyInfo element's algorithm and key. -/
def publicKeyOf (e : Element) : Option (Bytes × Bytes) :=
  if e.is 0 true 16 then
    match e.children with
    | a :: b :: _ => do
      let alg ← algOid a
      let key ← bitsOf b
      pure (alg, key)
    | _ => none
  else none

/-- R301: the walk over Certificate and TBSCertificate, the elements already taken apart. -/
def walkCertificate (buf : Bytes) (tbs sigAlg sig : Element) : Option CertRecord :=
  if tbs.is 0 true 16 then do
    let (version, ch) ← takeVersion tbs.children
    match ch with
    | sn :: inner :: issuer :: val :: subject :: spki :: rest =>
      if sn.is 0 false 2 then do
        let _ ← algOid inner
        let issuerPairs ← nameOf issuer
        let (notBefore, notAfter) ← validityOf val
        let subjectPairs ← nameOf subject
        let (keyAlg, key) ← publicKeyOf spki
        let exts ← (rest.filter fun e => e.is 2 true 3).mapM extensionsOf
        let signatureAlgorithm ← algOid sigAlg
        let signatureBytes ← bitsOf sig
        pure
          { version := version, serialNumber := sn.value, issuer := issuerPairs, subject := subjectPairs,
            notBefore := notBefore, notAfter := notAfter, publicKeyAlgorithm := keyAlg, publicKeyBytes := key,
            extensions := exts.flatten, signatureAlgorithm := signatureAlgorithm,
            signatureBytes := signatureBytes,
            tbsCertificateBytes := slice buf tbs.node.hdr (tbs.node.voff + tbs.length), rawBytes := buf }
      else none
    | _ => none
  else none

/-- R301: `parse_certificate(buf)`, none for null. -/
def parseCertificate (buf : Bytes) : Option CertRecord :=
  match parseDer buf with
  | some (cert :: _) =>
    if cert.is 0 true 16 then
      match cert.children with
      | tbs :: sigAlg :: sig :: _ => walkCertificate buf tbs sigAlg sig
      | _ => none
    else none
  | _ => none

/-- R303, R319: the fingerprint of raw bytes. -/
def fingerprint (b : Bytes) : Bytes := shaHash .sha256 b

/-- R307: `pairs(L)`. -/
def pairsBytes (l : List NameAttr) : Bytes :=
  l.flatMap fun a => toBe a.oid.length 4 ++ a.oid ++ toBe a.value.length 4 ++ a.value

/-- R307: the extensions as bytes. -/
def extensionsBytes (l : List Extension) : Bytes :=
  l.flatMap fun e =>
    toBe e.oid.length 4 ++ e.oid ++ [if e.critical then 1#8 else 0#8] ++ toBe e.value.length 4 ++ e.value

/-- R307: the bytes and RETVAL of field `fid` of a record; none for `fid > 13`. -/
def certField (r : CertRecord) (fid : Nat) : Option (Bytes × Word32) :=
  match fid with
  | 0 => some (toBe r.version.toNat 4, r.version)
  | 1 => some (r.serialNumber, 0)
  | 2 => some (pairsBytes r.issuer, countWord r.issuer.length)
  | 3 => some (pairsBytes r.subject, countWord r.subject.length)
  | 4 => some (toBe r.notBefore.toNat 8, 0)
  | 5 => some (toBe r.notAfter.toNat 8, 0)
  | 6 => some (r.publicKeyAlgorithm, 0)
  | 7 => some (r.publicKeyBytes, 0)
  | 8 => some (extensionsBytes r.extensions, countWord r.extensions.length)
  | 9 => some (r.signatureAlgorithm, 0)
  | 10 => some (r.signatureBytes, 0)
  | 11 => some (r.tbsCertificateBytes, 0)
  | 12 => some (r.rawBytes, 0)
  | 13 => some (fingerprint r.rawBytes, 0)
  | _ => none

/-- R308: what an accessor finds. -/
inductive ExtView (α : Type) where
  | absent
  | malformed
  | present (a : α)
deriving DecidableEq, Repr

/-- R308: `find_ext(r, oid)`. -/
def findExt (r : CertRecord) (oid : Bytes) : Option Bytes :=
  (r.extensions.find? fun e => e.oid == oid).map (·.value)

/-- R308: the extension looked up, its value parsed afresh, and the first element read by `view`, none meaning
malformed. -/
def viewExt {α : Type} (r : CertRecord) (oid : Bytes) (view : Element → Option α) : ExtView α :=
  match findExt r oid with
  | none => .absent
  | some v =>
    match parseDer v with
    | some (e :: _) =>
      match view e with
      | some a => .present a
      | none => .malformed
    | _ => .malformed

/-- R308: subjectAltName. -/
def oidSan : Bytes := [0x55#8, 0x1d#8, 0x11#8]

/-- R308: basicConstraints. -/
def oidBasicConstraints : Bytes := [0x55#8, 0x1d#8, 0x13#8]

/-- R308: keyUsage. -/
def oidKeyUsage : Bytes := [0x55#8, 0x1d#8, 0x0f#8]

/-- R314: commonName. -/
def oidCommonName : Bytes := [0x55#8, 0x04#8, 0x03#8]

/-- R309: `san(r)`, the DNS names. -/
def san (r : CertRecord) : ExtView (List Bytes) :=
  viewExt r oidSan fun e =>
    if e.is 0 true 16 then some ((e.children.filter fun c => c.is 2 false 2).map Element.value) else none

/-- R310: what basicConstraints says; `pathLen` is none when unbounded. -/
structure BasicConstraints where
  isCA : Bool
  pathLen : Option Nat
deriving DecidableEq, Repr

/-- R310: the optional pathLen child. -/
def bcPathLen (isCA : Bool) (c : List Element) : Option BasicConstraints :=
  match c with
  | p :: _ =>
    if p.is 0 false 2 then
      match p.value with
      | b :: _ =>
        if b.getLsbD 7 || 2 ^ 24 ≤ be p.value then none else some { isCA := isCA, pathLen := some (be p.value) }
      | [] => none
    else some { isCA := isCA, pathLen := none }
  | [] => some { isCA := isCA, pathLen := none }

/-- R310: `bc(r)`. -/
def basicConstraints (r : CertRecord) : ExtView BasicConstraints :=
  viewExt r oidBasicConstraints fun e =>
    if e.is 0 true 16 then
      match e.children with
      | c :: rest =>
        if c.is 0 false 1 then
          match c.value with
          | b :: _ => bcPathLen (b != 0#8) rest
          | [] => none
        else bcPathLen false (c :: rest)
      | [] => bcPathLen false []
    else none

/-- R310: RETVAL of CERT_BC. -/
def bcWord (b : BasicConstraints) : Word32 :=
  1#32 ||| (boolWord b.isCA <<< 1) ||| (boolWord b.pathLen.isSome <<< 2) ||| (BitVec.ofNat 32 (b.pathLen.getD 0) <<< 8)

/-- R311: named bit `n` of a keyUsage BIT STRING whose bytes after the first are `b`. -/
def namedBit (b : Bytes) (n : Nat) : Bool := (b.getD (n / 8) 0).getLsbD (7 - n % 8)

/-- R311: the mask of the named bits 0 to 15. -/
def keyUsageMask (b : Bytes) : BitVec 16 :=
  (List.range 16).foldl (fun m n => if namedBit b n then m ||| (1#16 <<< n) else m) 0#16

/-- R311: `ku(r)`. -/
def keyUsage (r : CertRecord) : ExtView (BitVec 16) :=
  viewExt r oidKeyUsage fun e => (bitsOf e).map keyUsageMask

/-- R312: `lower(b)`. -/
def lowerBytes (b : Bytes) : Bytes := b.map fun c => if 0x41 ≤ c.toNat ∧ c.toNat ≤ 0x5a then c + 0x20#8 else c

/-- R312: the bytes after the first `.`, none if there is none or it comes first. -/
def afterFirstLabel (h : Bytes) : Option Bytes :=
  match h.span (fun c => c != 0x2e#8) with
  | (_ :: _, _ :: rest) => some rest
  | _ => none

/-- R312: `hostname_matches(host, pattern)`. -/
def hostnameMatches (host pattern : Bytes) : Bool :=
  let h := lowerBytes host
  match lowerBytes pattern with
  | c0 :: c1 :: rest =>
    if c0 == 0x2a#8 && c1 == 0x2e#8 then afterFirstLabel h == some rest else h == c0 :: c1 :: rest
  | p => h == p

/-- R314: the last Common Name of a subject. -/
def lastCommonName (subject : List NameAttr) : Option Bytes :=
  ((subject.filter fun a => a.oid == oidCommonName).getLast?).map (·.value)

/-- R314: the hostname check of a certificate. -/
def certHostname (r : CertRecord) (host : Bytes) : Bool :=
  match san r with
  | .malformed => false
  | .present names => names.any fun n => hostnameMatches host n
  | .absent =>
    match lastCommonName r.subject with
    | some cn => hostnameMatches host cn
    | none => false

/-- R315: `check_validity(r, now)`, signed comparison, both ends inclusive. -/
def checkValidity (r : CertRecord) (now : Word64) : Bool := timeLe r.notBefore now && timeLe now r.notAfter

/-- R317: position `i` of a chain of `n`: the first reason that applies. -/
def chainPosition (s : State) (n : Nat) (now : Word64) (i : Nat) : Option Reason :=
  match s.cert i with
  | none => some .missingCert
  | some r =>
    if !checkValidity r now then some .outsideValidity
    else if 0 < i ∧ i + 1 < n then
      match basicConstraints r with
      | .present b => if b.isCA then none else some .notCa
      | _ => some .notCa
    else none

/-- R317: the first failing position among those listed. -/
def firstChainFailure (s : State) (n : Nat) (now : Word64) : List Nat → Option (Reason × Nat)
  | [] => none
  | i :: is =>
    match chainPosition s n now i with
    | some reason => some (reason, i)
    | none => firstChainFailure s n now is

/-- R317: `validate_chain(n, now)`, none for a pass. -/
def validateChain (s : State) (n : Nat) (now : Word64) : Option (Reason × Nat) :=
  if Config.chainMax < n then some (.chainTooLong, 0)
  else if n = 0 then some (.emptyChain, 0)
  else firstChainFailure s n now (List.range n)

/-- R34: a fingerprint inserted into the store's rising list. -/
def insertFingerprint (f : Bytes) : List Bytes → List Bytes
  | [] => [f]
  | g :: r => if be f < be g then f :: g :: r else if f = g then g :: r else g :: insertFingerprint f r

/-- R320: the store is full. The least value of TS_CAP (R9) is tried first. -/
def storeFull (ts : List Bytes) : Bool := decide (1 ≤ ts.length) && decide (Config.tsCap ≤ ts.length)

/-- R322: an OCSP record. -/
structure OcspRecord where
  serial : Bytes
  status : Nat
  hasNext : Bool
  nextUpdate : Word64
deriving DecidableEq, Repr

/-- R322: one record at the front of a list, and the bytes after it. -/
def ocspRecord (b : Bytes) : Option (OcspRecord × Bytes) :=
  match b with
  | [] => none
  | slen :: r =>
    let n := slen.toNat
    if r.length < n + 10 then none
    else
      let status := (r.getD n 0).toNat
      let hasNext := (r.getD (n + 1) 0).toNat
      if 2 < status ∨ 1 < hasNext then none
      else
        some ({ serial := r.take n, status := status, hasNext := hasNext == 1,
                nextUpdate := timeOperand (slice r (n + 2) (n + 10)) }, r.drop (n + 10))

/-- R322: the records of a list, none if it is malformed; every record takes a byte, so `b.length + 1` calls
suffice (`fuel`, log 13). -/
def ocspRecords : Nat → Bytes → Option (List OcspRecord)
  | 0, _ => none
  | _ + 1, [] => some []
  | fuel + 1, b :: bs =>
    match ocspRecord (b :: bs) with
    | none => none
    | some (r, rest) => (ocspRecords fuel rest).map fun rs => r :: rs

/-- R300. -/
def execCertParse (rs1 : Slot) (imm : Word32) (s : State) : Host.Outcome State Fault Refusal :=
  s.run [] [checkIndex imm.toNat] fun _ =>
    match parseCertificate (s.slot rs1) with
    | none => (s.setCert imm.toNat none).raise [] .parseError
    | some r => (s.setCert imm.toNat (some r)).succeed [] r.version

/-- R307. -/
def execCertField (rd : Slot) (imm : Word32) (s : State) : Host.Outcome State Fault Refusal :=
  let fid := (imm.extractLsb' 0 8).toNat
  let idx := (imm.extractLsb' 8 8).toNat
  s.run [rd] [checkImm (imm.extractLsb' 16 16 == 0#16 && fid ≤ 13), checkIndex idx] fun _ =>
    s.withCert [rd] idx fun r =>
      match certField r fid with
      | none => s.raise [rd] .badImm
      | some (out, retval) => s.deliver rd out retval

/-- R309. -/
def execCertSan (rd : Slot) (imm : Word32) (s : State) : Host.Outcome State Fault Refusal :=
  s.run [rd] [checkIndex imm.toNat] fun _ =>
    s.withCert [rd] imm.toNat fun r =>
      match san r with
      | .malformed => s.raise [rd] .parseError
      | .absent => s.succeed [(rd, [])] 0
      | .present names =>
        s.deliver rd (names.flatMap fun n => toBe n.length 4 ++ n) (1#1 ++ BitVec.ofNat 31 names.length)

/-- R310. -/
def execCertBc (imm : Word32) (s : State) : Host.Outcome State Fault Refusal :=
  s.run [] [checkIndex imm.toNat] fun _ =>
    s.withCert [] imm.toNat fun r =>
      match basicConstraints r with
      | .malformed => s.raise [] .parseError
      | .absent => s.succeed [] 0
      | .present b => s.succeed [] (bcWord b)

/-- R311. -/
def execCertKu (imm : Word32) (s : State) : Host.Outcome State Fault Refusal :=
  s.run [] [checkIndex imm.toNat] fun _ =>
    s.withCert [] imm.toNat fun r =>
      match keyUsage r with
      | .malformed => s.raise [] .parseError
      | .absent => s.succeed [] 0
      | .present mask => s.succeed [] (mask.setWidth 32 ||| (1#32 <<< 16))

/-- R314. -/
def execCertHostname (rs1 : Slot) (imm : Word32) (s : State) : Host.Outcome State Fault Refusal :=
  s.run [] [checkIndex imm.toNat] fun _ =>
    s.withCert [] imm.toNat fun r => s.succeed [] (boolWord (certHostname r (s.slot rs1)))

/-- R313. -/
def execHostnameMatch (rs1 rs2 : Slot) (s : State) : Host.Outcome State Fault Refusal :=
  s.run [] [] fun _ => s.succeed [] (boolWord (hostnameMatches (s.slot rs1) (s.slot rs2)))

/-- R316. -/
def execCertValidity (rs1 : Slot) (imm : Word32) (s : State) : Host.Outcome State Fault Refusal :=
  s.run [] [checkIndex imm.toNat, checkLength 1 (s.slot rs1) 8] fun _ =>
    s.withCert [] imm.toNat fun r => s.succeed [] (boolWord (checkValidity r (timeOperand (s.slot rs1))))

/-- R318. -/
def execChainValidate (rs1 : Slot) (imm : Word32) (s : State) : Host.Outcome State Fault Refusal :=
  s.run [] [checkLength 1 (s.slot rs1) 8] fun _ =>
    match validateChain s imm.toNat (timeOperand (s.slot rs1)) with
    | none => s.succeed [] 0
    | some (reason, i) => s.raise [] (.validationFail reason i)

/-- R320. -/
def execTsAdd (rs1 : Slot) (s : State) : Host.Outcome State Fault Refusal :=
  s.run [] [] fun _ =>
    let f := fingerprint (s.slot rs1)
    if f ∈ s.ts then s.succeed [] (countWord s.ts.length)
    else if storeFull s.ts then s.raise [] (.tsFull (countWord s.ts.length))
    else State.succeed { s with ts := insertFingerprint f s.ts } [] (countWord (s.ts.length + 1))

/-- R321. -/
def execTsQuery (imm : Word32) (s : State) : Host.Outcome State Fault Refusal :=
  s.run [] [checkIndex imm.toNat] fun _ =>
    s.withCert [] imm.toNat fun r => s.succeed [] (boolWord (decide (fingerprint r.rawBytes ∈ s.ts)))

/-- R323. -/
def execOcspCheck (rs1 rs2 : Slot) (imm : Word32) (s : State) : Host.Outcome State Fault Refusal :=
  s.run [] [checkIndex imm.toNat, checkLength 1 (s.slot rs1) 8] fun _ =>
    s.withCert [] imm.toNat fun r =>
      match ocspRecords ((s.slot rs2).length + 1) (s.slot rs2) with
      | none => s.raise [] .parseError
      | some records =>
        match records.find? fun m => m.serial == r.serialNumber with
        | none => s.succeed [] 0
        | some m =>
          if m.status = 1 then s.raise [] (.validationFail .revoked 0)
          else if m.hasNext && !(timeLe (timeOperand (s.slot rs1)) m.nextUpdate) then
            s.raise [] (.validationFail .ocspExpired 0)
          else s.succeed [] 1

end Sys2Proof.Machine
end

