-- ==== Sys2Proof/Machine/ChaCha.lean ====
section
/-! DEFINITION. ChaCha20 and Poly1305 (43_chacha_poly.md R210 to R227). -/

namespace Sys2Proof.Machine

open Sys2Proof

/-- R12: rotate left. -/
def rotl {w : Nat} (x : BitVec w) (n : Nat) : BitVec w := (x <<< n) ||| (x >>> (w - n))

/-- R210: the little-endian words of a byte sequence. -/
def leWords (b : Bytes) : List Word32 := (chunks 4 b).map fun c => BitVec.ofNat 32 (le c)

/-- R210: the four constant words. -/
def chachaConstants : List Word32 := [0x61707865#32, 0x3320646e#32, 0x79622d32#32, 0x6b206574#32]

/-- R210: the initial 16-word state. -/
def chachaInit (key nonce : Bytes) (counter : Word32) : List Word32 :=
  chachaConstants ++ leWords key ++ [counter] ++ leWords nonce

/-- R211: the quarter-round on the words at four indices. -/
def quarterRound (x : List Word32) (q : Nat × Nat × Nat × Nat) : List Word32 :=
  let (ia, ib, ic, id) := q
  let a := x.getD ia 0
  let b := x.getD ib 0
  let c := x.getD ic 0
  let d := x.getD id 0
  let a := a + b
  let d := rotl (d ^^^ a) 16
  let c := c + d
  let b := rotl (b ^^^ c) 12
  let a := a + b
  let d := rotl (d ^^^ a) 8
  let c := c + d
  let b := rotl (b ^^^ c) 7
  (((x.set ia a).set ib b).set ic c).set id d

/-- R212: the indices of a double-round, a column round and then a diagonal round. -/
def doubleRoundIndices : List (Nat × Nat × Nat × Nat) :=
  [(0, 4, 8, 12), (1, 5, 9, 13), (2, 6, 10, 14), (3, 7, 11, 15),
   (0, 5, 10, 15), (1, 6, 11, 12), (2, 7, 8, 13), (3, 4, 9, 14)]

/-- R212: one double-round. -/
def doubleRound (x : List Word32) : List Word32 := doubleRoundIndices.foldl quarterRound x

/-- R212: `n` double-rounds. -/
def doubleRounds : Nat → List Word32 → List Word32
  | 0, x => x
  | n + 1, x => doubleRounds n (doubleRound x)

/-- R212: `chacha20_block(key, nonce, counter)`. -/
def chachaBlock (key nonce : Bytes) (counter : Word32) : Bytes :=
  let init := chachaInit key nonce counter
  (List.zipWith (fun x y => x + y) (doubleRounds 10 init) init).flatMap fun w => toLe w.toNat 4

/-- R214: the chunks of the data in order under the block counters from `counter` on, modulo 2^32. -/
def chachaChunks (key nonce : Bytes) : Word32 → List Bytes → Bytes
  | _, [] => []
  | counter, d :: ds => xorBytes d (chachaBlock key nonce counter) ++ chachaChunks key nonce (counter + 1) ds

/-- R214: `chacha20_xor(key, nonce, counter, data)`. -/
def chachaXor (key nonce : Bytes) (counter : Word32) (data : Bytes) : Bytes :=
  chachaChunks key nonce counter (chunks 64 data)

/-- R218: `2^130 - 5`. -/
def p1305 : Nat := 2 ^ 130 - 5

/-- R217: the clamped multiplier `r`. -/
def polyR (otk : Bytes) : Nat := le (slice otk 0 16) &&& 0x0ffffffc0ffffffc0ffffffc0fffffff

/-- R217: the additive `s`. -/
def polyS (otk : Bytes) : Nat := le (slice otk 16 32)

/-- R219, R220: one chunk, a 1 bit appended after its last byte. -/
def polyStep (r : Nat) (acc : Nat) (c : Bytes) : Nat := (acc + (le c + 2 ^ (8 * c.length))) * r % p1305

/-- R219: `poly1305(otk, msg)`. -/
def poly1305 (otk msg : Bytes) : Bytes :=
  toLe (((chunks 16 msg).foldl (polyStep (polyR otk)) 0 + polyS otk) % 2 ^ 128) 16

/-- R223: the one-time key. -/
def ccpOtk (key iv : Bytes) : Bytes := (chachaBlock key iv 0).take 32

/-- R224: the MAC input. -/
def ccpMacData (aad c : Bytes) : Bytes := pad16 aad ++ pad16 c ++ toLe aad.length 8 ++ toLe c.length 8

/-- R222: the tag of a ciphertext. -/
def ccpTag (key iv aad c : Bytes) : Bytes := poly1305 (ccpOtk key iv) (ccpMacData aad c)

/-- R222: `ccp_encrypt`, ciphertext and tag. -/
def ccpEncrypt (key iv aad p : Bytes) : Bytes × Bytes :=
  let c := chachaXor key iv 1 p
  (c, ccpTag key iv aad c)

/-- R222: `ccp_decrypt`, none on a tag mismatch. -/
def ccpDecrypt (key iv aad c tag : Bytes) : Option Bytes :=
  if ctEqual (ccpTag key iv aad c) tag then some (chachaXor key iv 1 c) else none

/-- R213. -/
def execChacha20Block (rd rs1 rs2 : Slot) (imm : Word32) (s : State) : Host.Outcome State Fault Refusal :=
  s.run [rd] [checkLength 1 (s.slot rs1) 32, checkLength 2 (s.slot rs2) 12] fun _ =>
    s.succeed [(rd, chachaBlock (s.slot rs1) (s.slot rs2) imm)] 0

/-- R215. -/
def execChacha20Xor (rd rs1 rs2 rs3 : Slot) (imm : Word32) (s : State) : Host.Outcome State Fault Refusal :=
  s.run [rd] [checkLength 1 (s.slot rs1) 32, checkLength 2 (s.slot rs2) 12] fun _ =>
    s.succeed [(rd, chachaXor (s.slot rs1) (s.slot rs2) imm (s.slot rs3))] 0

/-- R221. -/
def execPoly1305 (rd rs1 rs2 : Slot) (s : State) : Host.Outcome State Fault Refusal :=
  s.run [rd] [checkLength 1 (s.slot rs1) 32] fun _ =>
    s.succeed [(rd, poly1305 (s.slot rs1) (s.slot rs2))] 0

/-- R225. -/
def execCcpEnc (rd rd2 rs1 rs2 rs3 rs4 : Slot) (s : State) : Host.Outcome State Fault Refusal :=
  s.run [rd, rd2] [checkAlias rd rd2, checkLength 1 (s.slot rs1) 32, checkLength 2 (s.slot rs2) 12] fun _ =>
    let r := ccpEncrypt (s.slot rs1) (s.slot rs2) (s.slot rs3) (s.slot rs4)
    s.succeed [(rd, r.1), (rd2, r.2)] 0

/-- R226. -/
def execCcpDec (rd rs1 rs2 rs3 rs4 rs5 : Slot) (s : State) : Host.Outcome State Fault Refusal :=
  s.run [rd]
    [checkLength 1 (s.slot rs1) 32, checkLength 2 (s.slot rs2) 12, checkLength 5 (s.slot rs5) 16] fun _ =>
    match ccpDecrypt (s.slot rs1) (s.slot rs2) (s.slot rs3) (s.slot rs4) (s.slot rs5) with
    | none => s.raise [rd] .authFail
    | some p => s.succeed [(rd, p)] 0

end Sys2Proof.Machine
end

