-- ==== Sys2Proof/Machine/Mac.lean ====
section
/-! DEFINITION. The MAC and key-derivation units (41_mac_kdf.md R150 to R158). -/

namespace Sys2Proof.Machine

open Sys2Proof

/-- R150: the key block `K0(v, K)`. -/
def keyBlock (v : Variant) (key : Bytes) : Bytes :=
  if key.length ≤ blockLen v then key ++ zeros (blockLen v - key.length)
  else shaHash v key ++ zeros (blockLen v - hashLen v)

/-- R151: `hmac(v, K, m)`. -/
def hmac (v : Variant) (key m : Bytes) : Bytes :=
  let k0 := keyBlock v key
  let inner := shaHash v (k0.map (fun x => x ^^^ 0x36#8) ++ m)
  shaHash v (k0.map (fun x => x ^^^ 0x5c#8) ++ inner)

/-- R154: `n` further blocks `T(i)`, `T(i+1)`, … after the block `t = T(i-1)`. -/
def expandBlocks (v : Variant) (prk info : Bytes) : Nat → Nat → Bytes → Bytes
  | 0, _, _ => []
  | n + 1, i, t =>
    let t' := hmac v prk (t ++ info ++ toBe i 1)
    t' ++ expandBlocks v prk info n (i + 1) t'

/-- R154: `hkdf_expand(v, prk, info, L)`. -/
def hkdfExpand (v : Variant) (prk info : Bytes) (len : Nat) : Bytes :=
  (expandBlocks v prk info ((len + hashLen v - 1) / hashLen v) 1 []).take len

/-- R156: the six bytes of `"tls13 "`. -/
def tls13Prefix : Bytes := [0x74#8, 0x6c#8, 0x73#8, 0x31#8, 0x33#8, 0x20#8]

/-- R156: `hkdf_label(lab, ctx, L)`. -/
def hkdfLabel (lab ctx : Bytes) (len : Nat) : Bytes :=
  toBe len 2 ++ (toBe (6 + lab.length) 1 ++ tls13Prefix ++ lab) ++ (toBe ctx.length 1 ++ ctx)

/-- R155, R157: the greatest output length, `255·HashLen`. -/
def expandLimit (v : Variant) : Nat := 255 * hashLen v

/-- R152: HMAC. -/
def hmacCommand (v : Variant) (rd rs1 rs2 : Slot) (s : State) : Host.Outcome State Fault Refusal :=
  s.run [rd] [] fun _ => s.succeed [(rd, hmac v (s.slot rs1) (s.slot rs2))] 0

/-- R153: HKDF_EXTRACT; the salt is the HMAC key, an empty slot is "no salt". -/
def extractCommand (v : Variant) (rd rs1 rs2 : Slot) (s : State) : Host.Outcome State Fault Refusal :=
  s.run [rd] [] fun _ => s.succeed [(rd, hmac v (s.slot rs1) (s.slot rs2))] 0

/-- R155: HKDF_EXPAND. The OVERFLOW of R155 cannot happen: the limit is below the least SLOT_MAX. -/
def expandCommand (v : Variant) (rd rs1 rs2 : Slot) (imm : Word32) (s : State) : Host.Outcome State Fault Refusal :=
  s.run [rd] [checkImm (imm.toNat ≤ expandLimit v)] fun _ =>
    s.succeed [(rd, hkdfExpand v (s.slot rs1) (s.slot rs2) imm.toNat)] 0

/-- R157: HKDF_EXPAND_LABEL. -/
def expandLabelCommand (v : Variant) (rd rs1 rs2 rs3 : Slot) (imm : Word32) (s : State) :
    Host.Outcome State Fault Refusal :=
  s.run [rd]
    [checkImm (imm.toNat ≤ 65535 && imm.toNat ≤ expandLimit v),
      checkMaxLength 2 (s.slot rs2) 249, checkMaxLength 3 (s.slot rs3) 255] fun _ =>
    s.succeed [(rd, hkdfExpand v (s.slot rs1) (hkdfLabel (s.slot rs2) (s.slot rs3) imm.toNat) imm.toNat)] 0

/-- R152. -/
def execHmacSha256 (rd rs1 rs2 : Slot) (s : State) : Host.Outcome State Fault Refusal :=
  hmacCommand .sha256 rd rs1 rs2 s

/-- R152. -/
def execHmacSha384 (rd rs1 rs2 : Slot) (s : State) : Host.Outcome State Fault Refusal :=
  hmacCommand .sha384 rd rs1 rs2 s

/-- R152. -/
def execHmacSha512 (rd rs1 rs2 : Slot) (s : State) : Host.Outcome State Fault Refusal :=
  hmacCommand .sha512 rd rs1 rs2 s

/-- R153. -/
def execHkdfExtractSha256 (rd rs1 rs2 : Slot) (s : State) : Host.Outcome State Fault Refusal :=
  extractCommand .sha256 rd rs1 rs2 s

/-- R153. -/
def execHkdfExtractSha384 (rd rs1 rs2 : Slot) (s : State) : Host.Outcome State Fault Refusal :=
  extractCommand .sha384 rd rs1 rs2 s

/-- R153. -/
def execHkdfExtractSha512 (rd rs1 rs2 : Slot) (s : State) : Host.Outcome State Fault Refusal :=
  extractCommand .sha512 rd rs1 rs2 s

/-- R155. -/
def execHkdfExpandSha256 (rd rs1 rs2 : Slot) (imm : Word32) (s : State) : Host.Outcome State Fault Refusal :=
  expandCommand .sha256 rd rs1 rs2 imm s

/-- R155. -/
def execHkdfExpandSha384 (rd rs1 rs2 : Slot) (imm : Word32) (s : State) : Host.Outcome State Fault Refusal :=
  expandCommand .sha384 rd rs1 rs2 imm s

/-- R155. -/
def execHkdfExpandSha512 (rd rs1 rs2 : Slot) (imm : Word32) (s : State) : Host.Outcome State Fault Refusal :=
  expandCommand .sha512 rd rs1 rs2 imm s

/-- R157. -/
def execHkdfExpandLabelSha256 (rd rs1 rs2 rs3 : Slot) (imm : Word32) (s : State) : Host.Outcome State Fault Refusal :=
  expandLabelCommand .sha256 rd rs1 rs2 rs3 imm s

/-- R157. -/
def execHkdfExpandLabelSha384 (rd rs1 rs2 rs3 : Slot) (imm : Word32) (s : State) : Host.Outcome State Fault Refusal :=
  expandLabelCommand .sha384 rd rs1 rs2 rs3 imm s

/-- R157. -/
def execHkdfExpandLabelSha512 (rd rs1 rs2 rs3 : Slot) (imm : Word32) (s : State) : Host.Outcome State Fault Refusal :=
  expandLabelCommand .sha512 rd rs1 rs2 rs3 imm s

end Sys2Proof.Machine
end

