-- ==== Sys2Proof/Machine/X25519.lean ====
section
/-! DEFINITION. X25519 (44_x25519.md R240 to R250). Field elements are integers in [0, p). -/

namespace Sys2Proof.Machine

open Sys2Proof

/-- R240: `p = 2^255 - 19`. -/
def p25519 : Nat := 2 ^ 255 - 19

/-- R240: `a + b`. -/
def fieldAdd (a b : Nat) : Nat := (a + b) % p25519

/-- R240: `a - b`, the least non-negative residue. -/
def fieldSub (a b : Nat) : Nat := (a + (p25519 - b % p25519)) % p25519

/-- R240: `a · b`. -/
def fieldMul (a b : Nat) : Nat := a * b % p25519

/-- R241: `decode(b)`, all 256 bits used. -/
def fieldDecode (b : Bytes) : Nat := le b % p25519

/-- R241: `encode(a)`. -/
def fieldEncode (a : Nat) : Bytes := toLe a 32

/-- `a^e mod p` for `e < 2^255`, by squaring from bit 254 down. -/
def fieldPow (a e : Nat) : Nat :=
  (List.range 255).reverse.foldl
    (fun acc t => if e.testBit t then fieldMul (fieldMul acc acc) a else fieldMul acc acc) 1

/-- R243: `gf_invert(a) = a^(p-2) mod p`. -/
def gfInvert (a : Nat) : Nat := fieldPow a (p25519 - 2)

/-- R245: `clamp(sc)`. -/
def clampScalar (sc : Bytes) : Bytes :=
  (sc.set 0 (sc.getD 0 0 &&& 0xf8#8)).set 31 ((sc.getD 31 0 &&& 0x7f#8) ||| 0x40#8)

/-- R246: the ladder's registers between iterations. -/
structure LadderState where
  x2 : Nat
  z2 : Nat
  x3 : Nat
  z3 : Nat
  swap : Bool
deriving DecidableEq, Repr

/-- R246: the conditional swap. -/
def condSwap (b : Bool) (l : LadderState) : LadderState :=
  if b then { l with x2 := l.x3, x3 := l.x2, z2 := l.z3, z3 := l.z2 } else l

/-- R246: the differential addition and doubling of one iteration. -/
def ladderArith (x1 : Nat) (l : LadderState) : LadderState :=
  let a := fieldAdd l.x2 l.z2
  let aa := fieldMul a a
  let b := fieldSub l.x2 l.z2
  let bb := fieldMul b b
  let e := fieldSub aa bb
  let c := fieldAdd l.x3 l.z3
  let d := fieldSub l.x3 l.z3
  let da := fieldMul d a
  let cb := fieldMul c b
  { x3 := fieldMul (fieldAdd da cb) (fieldAdd da cb)
    z3 := fieldMul x1 (fieldMul (fieldSub da cb) (fieldSub da cb))
    x2 := fieldMul aa bb
    z2 := fieldMul e (fieldAdd aa (fieldMul 121665 e))
    swap := l.swap }

/-- R246: the iteration for bit `t` of `k`. -/
def ladderStep (k x1 : Nat) (l : LadderState) (t : Nat) : LadderState :=
  let kt := k.testBit t
  ladderArith x1 { condSwap (l.swap ^^ kt) l with swap := kt }

/-- R246: `ladder(k, u)`, the pair `(x2, z2)`. -/
def ladder (k u : Nat) : Nat × Nat :=
  let l := (List.range 255).reverse.foldl (ladderStep k u) { x2 := 1, z2 := 0, x3 := u, z3 := 1, swap := false }
  let l := condSwap l.swap l
  (l.x2, l.z2)

/-- R248: the u-coordinate of a point, bit 255 masked, then reduced. -/
def pointCoordinate (b : Bytes) : Nat := le b % 2 ^ 255 % p25519

/-- R248: `x25519(scalar, point)`. -/
def x25519 (scalar point : Bytes) : Bytes :=
  let xz := ladder (le (clampScalar scalar)) (pointCoordinate point)
  fieldEncode (fieldMul xz.1 (gfInvert xz.2))

/-- R249: the base point, u = 9. -/
def basePoint : Bytes := 0x09#8 :: zeros 31

/-- R248. -/
def execX25519 (rd rs1 rs2 : Slot) (s : State) : Host.Outcome State Fault Refusal :=
  s.run [rd] [checkLength 1 (s.slot rs1) 32, checkLength 2 (s.slot rs2) 32] fun _ =>
    s.succeed [(rd, x25519 (s.slot rs1) (s.slot rs2))] 0

/-- R249. -/
def execX25519Base (rd rs1 : Slot) (s : State) : Host.Outcome State Fault Refusal :=
  s.run [rd] [checkLength 1 (s.slot rs1) 32] fun _ =>
    s.succeed [(rd, x25519 (s.slot rs1) basePoint)] 0

/-- R242. -/
def execGfMul (rd rs1 rs2 : Slot) (s : State) : Host.Outcome State Fault Refusal :=
  s.run [rd] [checkLength 1 (s.slot rs1) 32, checkLength 2 (s.slot rs2) 32] fun _ =>
    s.succeed [(rd, fieldEncode (fieldMul (fieldDecode (s.slot rs1)) (fieldDecode (s.slot rs2))))] 0

/-- R244. -/
def execGfInv (rd rs1 : Slot) (s : State) : Host.Outcome State Fault Refusal :=
  s.run [rd] [checkLength 1 (s.slot rs1) 32] fun _ =>
    s.succeed [(rd, fieldEncode (gfInvert (fieldDecode (s.slot rs1))))] 0

/-- R247: the scalar unclamped, bit 255 ignored. -/
def execLadder (rd rd2 rs1 rs2 : Slot) (s : State) : Host.Outcome State Fault Refusal :=
  s.run [rd, rd2] [checkAlias rd rd2, checkLength 1 (s.slot rs1) 32, checkLength 2 (s.slot rs2) 32] fun _ =>
    let xz := ladder (le (s.slot rs1) % 2 ^ 255) (fieldDecode (s.slot rs2))
    s.succeed [(rd, fieldEncode xz.1), (rd2, fieldEncode xz.2)] 0

end Sys2Proof.Machine
end

