-- ==== Sys2Proof/Machine/Dispatch.lean ====
section
/-! DEFINITION. One arm per constructor of `Instr`, each one direct call of its meaning (10_state.md R30). -/

namespace Sys2Proof.Machine

open Sys2Proof

def exec (i : Instr) (s : State) : Host.Outcome State Fault Refusal :=
  match i with
  | .nop => Sys2Proof.Machine.execNop s
  | .slotClear rd => Sys2Proof.Machine.execSlotClear rd s
  | .slotCopy rd rs1 => Sys2Proof.Machine.execSlotCopy rd rs1 s
  | .slotConcat rd rs1 rs2 => Sys2Proof.Machine.execSlotConcat rd rs1 rs2 s
  | .ctCmp rs1 rs2 => Sys2Proof.Machine.execCtCmp rs1 rs2 s
  | .hashSha256 rd rs1 => Sys2Proof.Machine.execHashSha256 rd rs1 s
  | .hashSha384 rd rs1 => Sys2Proof.Machine.execHashSha384 rd rs1 s
  | .hashSha512 rd rs1 => Sys2Proof.Machine.execHashSha512 rd rs1 s
  | .shaCompressSha256 rd rs1 rs2 => Sys2Proof.Machine.execShaCompressSha256 rd rs1 rs2 s
  | .shaCompressSha384 rd rs1 rs2 => Sys2Proof.Machine.execShaCompressSha384 rd rs1 rs2 s
  | .shaCompressSha512 rd rs1 rs2 => Sys2Proof.Machine.execShaCompressSha512 rd rs1 rs2 s
  | .shaPadSha256 rd rs1 => Sys2Proof.Machine.execShaPadSha256 rd rs1 s
  | .shaPadSha384 rd rs1 => Sys2Proof.Machine.execShaPadSha384 rd rs1 s
  | .shaPadSha512 rd rs1 => Sys2Proof.Machine.execShaPadSha512 rd rs1 s
  | .shaIvSha256 rd => Sys2Proof.Machine.execShaIvSha256 rd s
  | .shaIvSha384 rd => Sys2Proof.Machine.execShaIvSha384 rd s
  | .shaIvSha512 rd => Sys2Proof.Machine.execShaIvSha512 rd s
  | .hmacSha256 rd rs1 rs2 => Sys2Proof.Machine.execHmacSha256 rd rs1 rs2 s
  | .hmacSha384 rd rs1 rs2 => Sys2Proof.Machine.execHmacSha384 rd rs1 rs2 s
  | .hmacSha512 rd rs1 rs2 => Sys2Proof.Machine.execHmacSha512 rd rs1 rs2 s
  | .hkdfExtractSha256 rd rs1 rs2 => Sys2Proof.Machine.execHkdfExtractSha256 rd rs1 rs2 s
  | .hkdfExtractSha384 rd rs1 rs2 => Sys2Proof.Machine.execHkdfExtractSha384 rd rs1 rs2 s
  | .hkdfExtractSha512 rd rs1 rs2 => Sys2Proof.Machine.execHkdfExtractSha512 rd rs1 rs2 s
  | .hkdfExpandSha256 rd rs1 rs2 imm => Sys2Proof.Machine.execHkdfExpandSha256 rd rs1 rs2 imm s
  | .hkdfExpandSha384 rd rs1 rs2 imm => Sys2Proof.Machine.execHkdfExpandSha384 rd rs1 rs2 imm s
  | .hkdfExpandSha512 rd rs1 rs2 imm => Sys2Proof.Machine.execHkdfExpandSha512 rd rs1 rs2 imm s
  | .hkdfExpandLabelSha256 rd rs1 rs2 rs3 imm => Sys2Proof.Machine.execHkdfExpandLabelSha256 rd rs1 rs2 rs3 imm s
  | .hkdfExpandLabelSha384 rd rs1 rs2 rs3 imm => Sys2Proof.Machine.execHkdfExpandLabelSha384 rd rs1 rs2 rs3 imm s
  | .hkdfExpandLabelSha512 rd rs1 rs2 rs3 imm => Sys2Proof.Machine.execHkdfExpandLabelSha512 rd rs1 rs2 rs3 imm s
  | .aesKeyexp rd rs1 => Sys2Proof.Machine.execAesKeyexp rd rs1 s
  | .aesEnc rd rs1 rs2 => Sys2Proof.Machine.execAesEnc rd rs1 rs2 s
  | .gf128Mul rd rs1 rs2 => Sys2Proof.Machine.execGf128Mul rd rs1 rs2 s
  | .ghash rd rs1 rs2 rs3 => Sys2Proof.Machine.execGhash rd rs1 rs2 rs3 s
  | .aesCtr rd rs1 rs2 rs3 => Sys2Proof.Machine.execAesCtr rd rs1 rs2 rs3 s
  | .gcmEnc rd rd2 rs1 rs2 rs3 rs4 => Sys2Proof.Machine.execGcmEnc rd rd2 rs1 rs2 rs3 rs4 s
  | .gcmDec rd rs1 rs2 rs3 rs4 rs5 => Sys2Proof.Machine.execGcmDec rd rs1 rs2 rs3 rs4 rs5 s
  | .chacha20Block rd rs1 rs2 imm => Sys2Proof.Machine.execChacha20Block rd rs1 rs2 imm s
  | .chacha20Xor rd rs1 rs2 rs3 imm => Sys2Proof.Machine.execChacha20Xor rd rs1 rs2 rs3 imm s
  | .poly1305 rd rs1 rs2 => Sys2Proof.Machine.execPoly1305 rd rs1 rs2 s
  | .ccpEnc rd rd2 rs1 rs2 rs3 rs4 => Sys2Proof.Machine.execCcpEnc rd rd2 rs1 rs2 rs3 rs4 s
  | .ccpDec rd rs1 rs2 rs3 rs4 rs5 => Sys2Proof.Machine.execCcpDec rd rs1 rs2 rs3 rs4 rs5 s
  | .x25519 rd rs1 rs2 => Sys2Proof.Machine.execX25519 rd rs1 rs2 s
  | .x25519Base rd rs1 => Sys2Proof.Machine.execX25519Base rd rs1 s
  | .gfMul rd rs1 rs2 => Sys2Proof.Machine.execGfMul rd rs1 rs2 s
  | .gfInv rd rs1 => Sys2Proof.Machine.execGfInv rd rs1 s
  | .ladder rd rd2 rs1 rs2 => Sys2Proof.Machine.execLadder rd rd2 rs1 rs2 s
  | .derParse rd rs1 => Sys2Proof.Machine.execDerParse rd rs1 s
  | .certParse rs1 imm => Sys2Proof.Machine.execCertParse rs1 imm s
  | .certField rd imm => Sys2Proof.Machine.execCertField rd imm s
  | .certSan rd imm => Sys2Proof.Machine.execCertSan rd imm s
  | .certBc imm => Sys2Proof.Machine.execCertBc imm s
  | .certKu imm => Sys2Proof.Machine.execCertKu imm s
  | .certHostname rs1 imm => Sys2Proof.Machine.execCertHostname rs1 imm s
  | .hostnameMatch rs1 rs2 => Sys2Proof.Machine.execHostnameMatch rs1 rs2 s
  | .certValidity rs1 imm => Sys2Proof.Machine.execCertValidity rs1 imm s
  | .chainValidate rs1 imm => Sys2Proof.Machine.execChainValidate rs1 imm s
  | .tsAdd rs1 => Sys2Proof.Machine.execTsAdd rs1 s
  | .tsQuery imm => Sys2Proof.Machine.execTsQuery imm s
  | .ocspCheck rs1 rs2 imm => Sys2Proof.Machine.execOcspCheck rs1 rs2 imm s

end Sys2Proof.Machine
end

