-- ==== Sys2Proof/Machine/Step.lean ====
section
/-! DEFINITION. One step of the machine: the next turn of `schedule`, a host transaction or the core, and with
none left the core (00_scope.md R10, 10_state.md R30, 60_exceptions.md R381; log 1). -/

namespace Sys2Proof.Machine

open Sys2Proof

/-- R30: the core's turn: `Execute` when BUSY = 1, otherwise the state is held (60_exceptions.md R397). -/
def coreStep (s : State) : Host.Outcome State Fault Refusal :=
  if s.busy then
    match s.command with
    | .ok i => exec i s
    | .error _ => .next s.illegal
  else .next s

/-- One step: the agent whose turn `schedule` lists first, or the core when it lists none. -/
def step (s : State) : Host.Outcome State Fault Refusal :=
  match s.schedule with
  | [] => coreStep s
  | .core :: rest => coreStep { s with schedule := rest }
  | .host t :: rest => State.host { s with schedule := rest } t

/-- The command word `w` issued as R64 issues it (its high half in CMD_HI), and the core's turn next. -/
def State.withFetchWord (s : State) (nbits w : Nat) : State :=
  let word : Word64 := BitVec.ofNat 64 (w % 2 ^ nbits)
  let t := State.issue { s with cmdHi := word.extractLsb' 32 32 } (word.extractLsb' 0 32)
  match s.schedule with
  | [] => t
  | turns => { t with schedule := .core :: turns }

end Sys2Proof.Machine
end

