-- ==== Sys2Proof/Safety.lean ====
section
/-! DEFINITION. The terms the statements use: how a command ends (60_exceptions.md R376, R377), the
destinations it names (10_state.md R22), which result codes it can end with (60_exceptions.md R373), and the
invariant of CORE's state, which is what a safe run keeps. -/

namespace Sys2Proof.Machine

open Sys2Proof

/-- R22, R95: the slots a command names as destinations. -/
def destSlots (i : Instr) : List Slot :=
  (if (usesOf i.fields.opcode.toNat).rd then [slotOf i.fields.rd] else []) ++
    (if (usesOf i.fields.opcode.toNat).rd2 then [slotOf i.fields.rd2] else [])

/-- R30 (4) to (6), R370: `t` is the state after a command that began in `s` and ended with this result, in
everything but the slots, the certificate table and the trust store. -/
structure Ended (s t : State) (result : ResultCode) (retval errinfo : Word32) : Prop where
  result_eq : t.result = result
  retval_eq : t.retval = retval
  errinfo_eq : t.errinfo = errinfo
  busy_eq : t.busy = false
  done_eq : t.done = true
  units_eq : t.units = {}
  cmdHi_eq : t.cmdHi = s.cmdHi
  cmdReg_eq : t.cmdReg = s.cmdReg
  proto_eq : t.proto = s.proto
  schedule_eq : t.schedule = s.schedule
  reply_eq : t.reply = s.reply

/-- The slots of `s` with the content of `rd` replaced by `out`. -/
def written (s : State) (rd : Slot) (out : Bytes) : Slot → Bytes := fun j => if j = rd then out else s.slot j

/-- The slots of `s` with the contents of `rd` and `rd2` replaced. -/
def written2 (s : State) (rd : Slot) (out : Bytes) (rd2 : Slot) (out2 : Bytes) : Slot → Bytes :=
  fun j => if j = rd2 then out2 else if j = rd then out else s.slot j

/-- R377: `o` is a next state: the command that began in `s` ended with OK, the slots hold `slots`, RETVAL is
`retval`, and the certificate table and the trust store are `ct` and `ts`. -/
def EndsOk (o : Host.Outcome State Fault Refusal) (s : State) (slots : Slot → Bytes) (retval : Word32)
    (ct : Vector (Option CertRecord) 16) (ts : List Bytes) : Prop :=
  ∃ t, o = .next t ∧ Ended s t .ok retval 0 ∧ (∀ j, t.slot j = slots j) ∧ t.ct = ct ∧ t.ts = ts

/-- R377 for a command that changes neither the certificate table nor the trust store. -/
def CompletesOk (o : Host.Outcome State Fault Refusal) (s : State) (slots : Slot → Bytes) (retval : Word32) : Prop :=
  EndsOk o s slots retval s.ct s.ts

/-- R375, R376: `o` is a next state: the command that began in `s` ended with the failure `f`, the slots of
`dests` are empty, the other slots, the table and the store unchanged. -/
def FailsWith (o : Host.Outcome State Fault Refusal) (s : State) (dests : List Slot) (f : Failure) : Prop :=
  ∃ t, o = .next t ∧ Ended s t f.result f.retval f.errinfo ∧
    (∀ j, t.slot j = if j ∈ dests then [] else s.slot j) ∧ t.ct = s.ct ∧ t.ts = s.ts

/-- R373: the result codes other than OK that a command can end with. -/
def failureCodes : Instr → List ResultCode
  | .nop | .slotClear .. | .slotCopy .. | .ctCmp .. => []
  | .slotConcat .. => [.overflow]
  | .hashSha256 .. | .hashSha384 .. | .hashSha512 .. | .shaIvSha256 .. | .shaIvSha384 .. | .shaIvSha512 .. => []
  | .shaCompressSha256 .. | .shaCompressSha384 .. | .shaCompressSha512 .. => [.badLength]
  | .shaPadSha256 .. | .shaPadSha384 .. | .shaPadSha512 .. => [.overflow]
  | .hmacSha256 .. | .hmacSha384 .. | .hmacSha512 .. => []
  | .hkdfExtractSha256 .. | .hkdfExtractSha384 .. | .hkdfExtractSha512 .. => []
  | .hkdfExpandSha256 .. | .hkdfExpandSha384 .. | .hkdfExpandSha512 .. => [.badImm]
  | .hkdfExpandLabelSha256 .. | .hkdfExpandLabelSha384 .. | .hkdfExpandLabelSha512 .. => [.badImm, .badLength]
  | .aesKeyexp .. | .aesEnc .. | .gf128Mul .. | .ghash .. | .aesCtr .. => [.badLength]
  | .gcmEnc .. | .ccpEnc .. | .ladder .. => [.operandAlias, .badLength]
  | .gcmDec .. | .ccpDec .. => [.badLength, .authFail]
  | .chacha20Block .. | .chacha20Xor .. | .poly1305 .. => [.badLength]
  | .x25519 .. | .x25519Base .. | .gfMul .. | .gfInv .. => [.badLength]
  | .derParse .. => [.parseError, .overflow]
  | .certParse .. => [.badIndex, .parseError]
  | .certField .. => [.badImm, .badIndex, .noCert, .overflow]
  | .certSan .. => [.badIndex, .noCert, .parseError, .overflow]
  | .certBc .. | .certKu .. => [.badIndex, .noCert, .parseError]
  | .certHostname .. | .tsQuery .. => [.badIndex, .noCert]
  | .hostnameMatch .. => []
  | .certValidity .. => [.badIndex, .badLength, .noCert]
  | .chainValidate .. => [.badLength, .validationFail]
  | .tsAdd .. => [.tsFull]
  | .ocspCheck .. => [.badIndex, .badLength, .noCert, .parseError, .validationFail]

/-- R34: the trust store's one form: 32-byte fingerprints, rising, so that equal sets are equal lists (log 9). -/
def tsWf (ts : List Bytes) : Bool :=
  ts.all (fun f => f.length == 32) && decide (ts.Pairwise fun a b => be a < be b)

/-- R20, R28, R29, R34, R35, R375 and R380: what holds of CORE's state between steps. -/
structure State.Inv (s : State) : Prop where
  /-- R20, R21: no slot is longer than SLOT_MAX. -/
  slots_le : ∀ i, (s.slot i).length ≤ Config.slotMax
  /-- R28: BUSY and DONE are never both 1. -/
  flags : ¬(s.busy = true ∧ s.done = true)
  /-- R28, R29: RESULT, RETVAL and ERRINFO are 0 unless a command has ended. -/
  clear : s.done = false → s.result = .ok ∧ s.retval = 0 ∧ s.errinfo = 0
  /-- R64, R65: while BUSY = 1 CMD_HI is still the high word of the command. -/
  latched : s.busy = true → s.cmdHi = s.cmdReg.extractLsb' 32 32
  /-- R375: RETVAL is 0 after a failure other than VALIDATION_FAIL and TS_FULL. -/
  retval_zero : s.result ≠ .ok → s.result ≠ .validationFail → s.result ≠ .tsFull → s.retval = 0
  /-- R374: the reason after VALIDATION_FAIL is 1 to 7. -/
  reason : s.result = .validationFail → 1 ≤ s.retval.toNat ∧ s.retval.toNat ≤ 7
  /-- R375: ERRINFO is 0 except after BAD_LENGTH and VALIDATION_FAIL. -/
  errinfo_zero : s.result ≠ .badLength → s.result ≠ .validationFail → s.errinfo = 0
  /-- R372: the operand number of a BAD_LENGTH is 1 to 5. -/
  operand : s.result = .badLength → 1 ≤ s.errinfo.toNat ∧ s.errinfo.toNat ≤ 5
  /-- R35: the working registers are clear. -/
  units_clear : s.units = {}
  /-- R34: the trust store is a set of at most TS_CAP fingerprints. -/
  ts_wf : tsWf s.ts = true ∧ s.ts.length ≤ Config.tsCap
  /-- R32, R33: a valid entry is the record of the bytes it was parsed from. -/
  ct_parsed : ∀ idx r, s.cert idx = some r → parseCertificate r.rawBytes = some r ∧ r.rawBytes.length ≤ Config.slotMax

/-- R93: HASH with a variant. -/
def hashInstr (v : Variant) (rd rs1 : Slot) : Instr :=
  match v with
  | .sha256 => .hashSha256 rd rs1
  | .sha384 => .hashSha384 rd rs1
  | .sha512 => .hashSha512 rd rs1

/-- R93: SHA_COMPRESS with a variant. -/
def compressInstr (v : Variant) (rd rs1 rs2 : Slot) : Instr :=
  match v with
  | .sha256 => .shaCompressSha256 rd rs1 rs2
  | .sha384 => .shaCompressSha384 rd rs1 rs2
  | .sha512 => .shaCompressSha512 rd rs1 rs2

/-- R93: SHA_PAD with a variant. -/
def padInstr (v : Variant) (rd rs1 : Slot) : Instr :=
  match v with
  | .sha256 => .shaPadSha256 rd rs1
  | .sha384 => .shaPadSha384 rd rs1
  | .sha512 => .shaPadSha512 rd rs1

/-- R93: HMAC with a variant. -/
def hmacInstr (v : Variant) (rd rs1 rs2 : Slot) : Instr :=
  match v with
  | .sha256 => .hmacSha256 rd rs1 rs2
  | .sha384 => .hmacSha384 rd rs1 rs2
  | .sha512 => .hmacSha512 rd rs1 rs2

/-- R93: HKDF_EXTRACT with a variant. -/
def extractInstr (v : Variant) (rd rs1 rs2 : Slot) : Instr :=
  match v with
  | .sha256 => .hkdfExtractSha256 rd rs1 rs2
  | .sha384 => .hkdfExtractSha384 rd rs1 rs2
  | .sha512 => .hkdfExtractSha512 rd rs1 rs2

/-- R93: HKDF_EXPAND with a variant. -/
def expandInstr (v : Variant) (rd rs1 rs2 : Slot) (imm : Word32) : Instr :=
  match v with
  | .sha256 => .hkdfExpandSha256 rd rs1 rs2 imm
  | .sha384 => .hkdfExpandSha384 rd rs1 rs2 imm
  | .sha512 => .hkdfExpandSha512 rd rs1 rs2 imm

/-- R93: HKDF_EXPAND_LABEL with a variant. -/
def expandLabelInstr (v : Variant) (rd rs1 rs2 rs3 : Slot) (imm : Word32) : Instr :=
  match v with
  | .sha256 => .hkdfExpandLabelSha256 rd rs1 rs2 rs3 imm
  | .sha384 => .hkdfExpandLabelSha384 rd rs1 rs2 rs3 imm
  | .sha512 => .hkdfExpandLabelSha512 rd rs1 rs2 rs3 imm

mutual
/-- R271 to R274: the element's tag byte stands at `off`, and the children of a constructed element fill its
content exactly. -/
def Element.tiled (off : Nat) : Element → Prop
  | .mk n c => n.hdr = off ∧ off < n.voff ∧ (if n.constructed then tiledList n.voff (n.voff + n.value.length) c else c = [])
/-- R275: the elements follow each other from `off` to `stop` without a gap. -/
def tiledList (off stop : Nat) : List Element → Prop
  | [] => off = stop
  | e :: es => e.tiled off ∧ tiledList (e.node.voff + e.node.value.length) stop es
end

/-- R271, R272: the identifier octets of a node: class, constructed bit and a tag below 31 in one byte, or the tag in
groups of seven bits, most significant first, every group but the last with bit 7 set; leading zero groups and small
numbers are allowed, numbers of 2^32 or more are not. -/
def identifierOctets (n : DerNode) (b : Bytes) : Prop :=
  ∃ first more, b = first :: more ∧ first.toNat / 32 = 2 * n.tagClass.toNat + n.constructed.toNat ∧ n.tag < 2 ^ 32 ∧
    ((more = [] ∧ first.toNat % 32 ≠ 31 ∧ n.tag = first.toNat % 32) ∨
      (first.toNat % 32 = 31 ∧ ∃ groups last, more = groups ++ [last] ∧ (∀ g ∈ groups, 128 ≤ g.toNat) ∧
        last.toNat < 128 ∧ n.tag = more.foldl (fun t g => 128 * t + g.toNat % 128) 0))

/-- R273: the length octets of a content of `len` bytes: one byte below 128, or a count of 1 to 4 and that many bytes,
big-endian, not necessarily the fewest. -/
def lengthOctets (len : Nat) (b : Bytes) : Prop :=
  ∃ first more, b = first :: more ∧
    ((more = [] ∧ first.toNat = len ∧ len < 128) ∨
      (first.toNat = 128 + more.length ∧ 1 ≤ more.length ∧ more.length ≤ 4 ∧ be more = len))

/-- R271 to R274: the bytes of `buf` at the node's offsets are its identifier, its length and its content. -/
def nodeStandsIn (buf : Bytes) (n : DerNode) : Prop :=
  n.voff + n.value.length ≤ buf.length ∧ n.value = slice buf n.voff (n.voff + n.value.length) ∧
    ∃ identifier length, slice buf n.hdr n.voff = identifier ++ length ∧ identifierOctets n identifier ∧
      lengthOctets n.value.length length

/-- R15, R77: the signed number of the 8-byte operand `now`. -/
def nowOf (b : Bytes) : Int := (BitVec.ofNat 64 (be b)).toInt

/-- R315: `now` lies in the record's validity window, both ends inclusive. -/
def validAt (r : CertRecord) (now : Int) : Prop := r.notBefore.toInt ≤ now ∧ now ≤ r.notAfter.toInt

/-- R308: `v` is the value of the first extension of the record with this OID. -/
def firstExtension (r : CertRecord) (oid v : Bytes) : Prop :=
  ∃ before x after, r.extensions = before ++ x :: after ∧ (∀ y ∈ before, y.oid ≠ oid) ∧ x.oid = oid ∧ x.value = v

/-- R308: `found` is what an accessor finds of the extension `oid`, where `reads e a` says that its first element `e`
has the right form and says `a`: absent without such an extension, malformed where its value does not parse, holds
no element or holds a first one of another form. -/
def viewIs {α : Type} (r : CertRecord) (oid : Bytes) (reads : Element → α → Prop) (found : ExtView α) : Prop :=
  ((∀ x ∈ r.extensions, x.oid ≠ oid) → found = .absent) ∧
    ∀ v, firstExtension r oid v →
      (parseDer v = none → found = .malformed) ∧ (parseDer v = some [] → found = .malformed) ∧
      ∀ e more, parseDer v = some (e :: more) →
        (∀ a, reads e a → found = .present a) ∧ ((∀ a, ¬reads e a) → found = .malformed)

/-- R309: the values of the dNSName children of a SEQUENCE, in order. -/
def sanReads (e : Element) (names : List Bytes) : Prop :=
  e.is 0 true 16 = true ∧ names = (e.children.filter fun c => c.is 2 false 2).map Element.value

/-- R310: the pathLen child, a non-negative INTEGER below 2^24, if it stands first in `c`. -/
def pathLenReads (c : List Element) (len : Option Nat) : Prop :=
  (∃ p rest x xs, c = p :: rest ∧ p.is 0 false 2 = true ∧ p.value = x :: xs ∧ x.toNat < 128 ∧ be p.value < 2 ^ 24 ∧
      len = some (be p.value)) ∨
    ((∀ p rest, c = p :: rest → p.is 0 false 2 = false) ∧ len = none)

/-- R310: a SEQUENCE of an optional BOOLEAN, true when its first byte is not 0, and an optional pathLen. -/
def basicConstraintsReads (e : Element) (b : BasicConstraints) : Prop :=
  e.is 0 true 16 = true ∧
    ((∃ c rest x xs, e.children = c :: rest ∧ c.is 0 false 1 = true ∧ c.value = x :: xs ∧ (b.isCA = true ↔ x ≠ 0) ∧
        pathLenReads rest b.pathLen) ∨
      ((∀ c rest, e.children = c :: rest → c.is 0 false 1 = false) ∧ b.isCA = false ∧ pathLenReads e.children b.pathLen))

/-- R311: a BIT STRING whose named bits 0 to 15 are the mask, a bit of a byte that does not exist being 0. -/
def keyUsageReads (e : Element) (mask : BitVec 16) : Prop :=
  e.is 0 false 3 = true ∧ ∃ unused b, e.value = unused :: b ∧
    ∀ n, n < 16 → mask.getLsbD n = (b.getD (n / 8) 0).getLsbD (7 - n % 8)

/-- R322: what a record can hold. -/
def ocspWellFormed (m : OcspRecord) : Prop := m.serial.length ≤ 255 ∧ m.status ≤ 2

/-- R322: the bytes of a record. -/
def ocspOctets (m : OcspRecord) : Bytes :=
  toBe m.serial.length 1 ++ m.serial ++ toBe m.status 1 ++ toBe m.hasNext.toNat 1 ++ toBe m.nextUpdate.toNat 8

/-- R322: the bytes are the concatenation of these records. -/
def ocspListIs (b : Bytes) (records : List OcspRecord) : Prop :=
  (∀ m ∈ records, ocspWellFormed m) ∧ b = records.flatMap ocspOctets

/-- R310: the record is marked as a CA. -/
def markedCa (r : CertRecord) : Prop := ∃ b, basicConstraints r = .present b ∧ b.isCA = true

/-- R317: position `i` of a chain of `n` certificates has nothing against it. -/
def positionGood (s : State) (n : Nat) (now : Int) (i : Nat) : Prop :=
  ∃ r, s.cert i = some r ∧ validAt r now ∧ (0 < i → i + 1 < n → markedCa r)

/-- R317: what is reported of position `i`, the first of its tests that fails. -/
def positionReason (s : State) (n : Nat) (now : Int) (i : Nat) : Reason → Prop
  | .missingCert => s.cert i = none
  | .outsideValidity => ∃ r, s.cert i = some r ∧ ¬validAt r now
  | .notCa => ∃ r, s.cert i = some r ∧ validAt r now ∧ 0 < i ∧ i + 1 < n ∧ ¬markedCa r
  | _ => False

end Sys2Proof.Machine
end

