-- ==== Sys2Proof/Certificates/Slice0/Obligations.lean ====
section
/-! DEFINITION. The statements about the model that are to be proved. -/

open Sys2Proof Sys2Proof.Machine

/-! Encoding (30_encoding.md). -/

/-- R92: decoding the word of an instruction gives the instruction back, with every operand. -/
def Obligations.DecodeEncode : Prop := ∀ i : Instr, decode (encode i) = .ok i

/-- R92: a legal word is the word of the instruction it decodes to, so two legal words never decode alike. -/
def Obligations.EncodeDecode : Prop := ∀ (w : Word64) (i : Instr), decode w = .ok i → encode i = w

/-- R97: the legal words are those whose fields are well formed, and every other word ends with ILLEGAL_CMD,
writing no slot, no entry of CT and no member of TS. -/
def Obligations.LegalWords : Prop :=
  ∀ w : Word64,
    ((∃ i, decode w = .ok i) ↔ (Fields.ofWord w).wellFormed = true) ∧
    ((Fields.ofWord w).wellFormed = false →
      ∀ s : State, s.busy = true → s.cmdReg = w → FailsWith (coreStep s) s [] .illegalCmd)

/-- R102: the worked encodings. -/
def Obligations.WorkedEncodings : Prop :=
  decode 0x0000000000000410#64 = .ok (.hashSha256 1 0) ∧
  decode 0x0000000000000610#64 = .ok (.hashSha512 1 0) ∧
  decode 0x0000002A00080822#64 = .ok (.hkdfExpandSha256 2 0 1 42) ∧
  decode 0x000000000688B035#64 = .ok (.gcmEnc 4 5 0 1 2 3) ∧
  decode 0x0000000046881436#64 = .ok (.gcmDec 5 0 1 2 3 4) ∧
  decode 0x0000000000000710#64 = .error .reservedVariant ∧
  decode 0x0000000000000400#64 = .error .unusedSlot

/-! The two agents and the state (10_state.md, 20_memory.md, 70_reset_and_hazards.md). -/

/-- R30, R97, R376: when it is the core's turn and BUSY = 1, the step is `exec` of the command in CMDREG, decoded; for a
word that is no command it is the completion with ILLEGAL_CMD, which changes nothing but the flags, RETVAL, ERRINFO
and the working registers; when BUSY = 0 the core holds the state. The schedule is the model's own (log 1): its first
turn is used up. -/
def Obligations.StepRunsDecoded : Prop :=
  (∀ (s : State) (i : Instr), s.busy = true → decode s.cmdReg = .ok i →
    (s.schedule = [] → step s = exec i s) ∧
    (∀ rest, s.schedule = .core :: rest → step s = exec i { s with schedule := rest })) ∧
  (∀ s : State, s.busy = true → (∀ i, decode s.cmdReg ≠ .ok i) →
    let t : State := { s with
      busy := false, done := true, result := .illegalCmd, retval := 0, errinfo := 0, units := {} }
    (s.schedule = [] → step s = .next t) ∧
    (∀ rest, s.schedule = .core :: rest → step s = .next { t with schedule := rest })) ∧
  (∀ s : State, s.busy = false →
    (s.schedule = [] → step s = .next s) ∧
    (∀ rest, s.schedule = .core :: rest → step s = .next { s with schedule := rest }))

/-- The invariant of CORE's state (10_state.md R20, R28, R29, R32, R34, R35, 60_exceptions.md R375): every step
of either agent keeps it. -/
def Obligations.InvariantKept : Prop := ∀ s t : State, s.Inv → step s = .next t → t.Inv

/-- The invariant holds after reset. -/
def Obligations.InvariantAtReset : Prop := State.reset.Inv

/-- R410, R47: `Reset` sets every piece of state to its reset value in one transition, also while BUSY = 1, and
the core's `Execute` is then disabled. The turns still to come and the reply are the model's own (log 1, log 2). -/
def Obligations.ResetTransaction : Prop :=
  ∀ (s : State) (rest : List Turn), s.schedule = .host .reset :: rest →
    ∃ t, step s = .next t ∧ (∀ i, t.slot i = []) ∧ t.cmdHi = 0 ∧ t.cmdReg = 0 ∧ t.busy = false ∧ t.done = false ∧
      t.proto = false ∧ t.result = .ok ∧ t.status = 0 ∧ t.retval = 0 ∧ t.errinfo = 0 ∧ (∀ k, t.cert k = none) ∧
      t.ts = [] ∧ t.units = {} ∧ t.schedule = rest ∧ coreStep t = .next t

/-- R61 with R25 to R29 and R372: `CsrRead` returns the register and changes nothing, at any time. The turns and the
reply are the model's own (log 1, log 2). -/
def Obligations.CsrReads : Prop :=
  ∀ (s : State) (n : Word32) (rest : List Turn), s.schedule = .host (.csrRead n) :: rest →
    (∃ v, step s = .next { s with schedule := rest, reply := .word v } ∧
      (n = 1 → v = s.cmdHi) ∧
      (n = 2 → v.toNat = s.busy.toNat + 2 * s.done.toNat + 4 * s.proto.toNat + 256 * s.result.code.toNat) ∧
      (n = 3 → v = s.retval) ∧ (n = 4 → v = s.errinfo) ∧
      (n = 0 ∨ 4 < n.toNat → v = 0)) ∧
    ([ResultCode.ok, .authFail, .parseError, .validationFail, .illegalCmd, .operandAlias, .badLength, .badImm,
      .overflow, .badIndex, .tsFull, .noCert].map ResultCode.code =
      [0x00, 0x01, 0x02, 0x03, 0x10, 0x11, 0x12, 0x13, 0x14, 0x15, 0x16, 0x17])

/-- R62, R63: a sequence written to a slot while BUSY = 0 replaces its content whole, nothing else changes, and a
later `SlotRead` returns it. The turns and the reply are the model's own (log 1, log 2). -/
def Obligations.SlotWriteThenRead : Prop :=
  ∀ (s : State) (i j : Slot) (b : Bytes) (rest : List Turn), s.busy = false → b.length ≤ Config.slotMax →
    s.schedule = .host (.slotWrite i b) :: .host (.slotRead j) :: rest →
    ∃ t, step s = .next t ∧ (∀ k, t.slot k = if k = i then b else s.slot k) ∧
      t = { s with slots := t.slots, schedule := .host (.slotRead j) :: rest, reply := .nothing } ∧
      step t = .next { t with schedule := rest, reply := .bytes (if j = i then b else s.slot j) }

/-- The model's own reading (log 3) of R60: a `SlotWrite` longer than SLOT_MAX is given no step: the model stops. -/
def Obligations.TooLongSlotWriteStops : Prop :=
  ∀ (s : State) (i : Slot) (b : Bytes) (rest : List Turn), Config.slotMax < b.length →
    s.schedule = .host (.slotWrite i b) :: rest → step s = .fault .slotWriteTooLong

/-- R64: `CsrWrite` while BUSY = 0: number 1 sets CMD_HI, number 0 issues the command, every other number is
ignored. The turns and the reply are the model's own (log 1, log 2). -/
def Obligations.CsrWrites : Prop :=
  ∀ (s : State) (n v : Word32) (rest : List Turn), s.busy = false → s.schedule = .host (.csrWrite n v) :: rest →
    ∃ t, step s = .next t ∧
      (n = 1 → t = { s with cmdHi := v, schedule := rest, reply := .nothing }) ∧
      (n = 0 → t.cmdReg.toNat = s.cmdHi.toNat * 2 ^ 32 + v.toNat ∧
        t = { s with
              cmdReg := t.cmdReg, busy := true, done := false, result := .ok, retval := 0, errinfo := 0,
              schedule := rest, reply := .nothing }) ∧
      (2 ≤ n.toNat → t = { s with schedule := rest, reply := .nothing })

/-- R65: while BUSY = 1 a `CsrWrite` to any number, a `SlotWrite` or a `SlotRead` only sets PROTO; such a
`SlotRead` returns the empty sequence. That a `CsrWrite` to a read-only number or one above 4 sets PROTO too, which R25
alone would have it ignore, is the model's reading of the two rules (log 10). The turns and the reply are the model's
own (log 1, log 2). -/
def Obligations.BusyWindow : Prop :=
  ∀ (s : State) (rest : List Turn), s.busy = true →
    (∀ n v, s.schedule = .host (.csrWrite n v) :: rest →
      step s = .next { s with proto := true, schedule := rest, reply := .nothing }) ∧
    (∀ i b, b.length ≤ Config.slotMax → s.schedule = .host (.slotWrite i b) :: rest →
      step s = .next { s with proto := true, schedule := rest, reply := .nothing }) ∧
    (∀ i, s.schedule = .host (.slotRead i) :: rest →
      step s = .next { s with proto := true, schedule := rest, reply := .bytes [] })

/-- R28, R31, R383: PROTO is cleared by nothing but `Reset`, and set by nothing but a host transaction other than
`CsrRead` while BUSY = 1. The turns are the model's own (log 1). -/
def Obligations.ProtoSticky : Prop :=
  ∀ s t : State, step s = .next t →
    (s.proto = true → t.proto = true ∨ ∃ rest, s.schedule = .host .reset :: rest) ∧
    (t.proto = true → s.proto = true ∨
      (s.busy = true ∧ ∃ tx rest, s.schedule = .host tx :: rest ∧ tx ≠ .reset ∧ ∀ n, tx ≠ .csrRead n))

/-- R64, R74, R30: the two writes of a command word and the core's turn run the command the word encodes, in the
state that the host left. The turns and the reply are the model's own (log 1, log 2). -/
def Obligations.CommandCycle : Prop :=
  ∀ (s : State) (hi lo : Word32) (i : Instr) (rest : List Turn), s.busy = false → decode (hi ++ lo) = .ok i →
    s.schedule = .host (.csrWrite 1 hi) :: .host (.csrWrite 0 lo) :: .core :: rest →
    Sys2Proof.core.run 3 s = exec i
      { s with
        cmdHi := hi, cmdReg := hi ++ lo, busy := true, done := false, result := .ok, retval := 0, errinfo := 0,
        schedule := rest, reply := .nothing }

/-! All commands (60_exceptions.md). -/

/-- R370, R373: every command ends with a next state, in the same way, with OK or one of its codes. -/
def Obligations.EveryCommandEnds : Prop :=
  ∀ (i : Instr) (s : State), ∃ t, exec i s = .next t ∧ Ended s t t.result t.retval t.errinfo ∧
    (t.result = .ok ∨ t.result ∈ failureCodes i)

/-- R376 with R375: the effects of a failed command. -/
def Obligations.FailureEffects : Prop :=
  ∀ (i : Instr) (s t : State), exec i s = .next t → t.result ≠ .ok →
    (∀ j, t.slot j =
      if j ∈ destSlots i ∧ t.result ≠ .illegalCmd ∧ t.result ≠ .operandAlias then [] else s.slot j) ∧
    (∀ k, (∃ rs1 imm, i = .certParse rs1 imm ∧ k = imm.toNat ∧ t.result = .parseError) → t.cert k = none) ∧
    (∀ k, ¬(∃ rs1 imm, i = .certParse rs1 imm ∧ k = imm.toNat ∧ t.result = .parseError) → t.cert k = s.cert k) ∧
    t.ts = s.ts ∧
    (t.result ≠ .validationFail → t.result ≠ .tsFull → t.retval = 0) ∧
    (t.result ≠ .badLength → t.result ≠ .validationFail → t.errinfo = 0) ∧
    Ended s t t.result t.retval t.errinfo

/-- R22, R32, R34, R377: a command that ends with OK changes no slot it does not name as a destination, no entry
of CT but the one CERT_PARSE names, and TS only if it is TS_ADD. -/
def Obligations.SuccessFrame : Prop :=
  ∀ (i : Instr) (s t : State), exec i s = .next t → t.result = .ok →
    (∀ j, j ∉ destSlots i → t.slot j = s.slot j) ∧
    (∀ k, (∀ rs1 imm, i = .certParse rs1 imm → k ≠ imm.toNat) → t.cert k = s.cert k) ∧
    ((∀ rs1, i ≠ .tsAdd rs1) → t.ts = s.ts) ∧ t.errinfo = 0

/-- R380: whether a command ends with one of the codes of steps 2 to 5, and with which operand number, depends on
the lengths of the slots and on which entries of CT are valid, never on the content of a slot or an entry. -/
def Obligations.ChecksIgnoreContent : Prop :=
  ∀ (i : Instr) (s s' t t' : State), (∀ j, (s.slot j).length = (s'.slot j).length) →
    (∀ k, (s.cert k).isSome = (s'.cert k).isSome) → exec i s = .next t → exec i s' = .next t' →
    ∀ c, c ∈ [ResultCode.operandAlias, .badImm, .badIndex, .badLength, .noCert] →
      (t.result = c ↔ t'.result = c) ∧ (t.result = c → t.errinfo = t'.errinfo)

/-- R31, R35: no command reads STATUS (BUSY, DONE, PROTO, RESULT), RETVAL, ERRINFO or a working register: whatever
they hold, the command ends in the same state, PROTO being what it was. -/
def Obligations.FlagsNotRead : Prop :=
  ∀ (i : Instr) (s : State) (busy done proto : Bool) (result : ResultCode) (retval errinfo : Word32) (units : Units),
    ∃ t, exec i s = .next t ∧
      exec i { s with
        busy := busy, done := done, proto := proto, result := result, retval := retval, errinfo := errinfo,
        units := units } = .next { t with proto := proto }

/-! System commands (47_system.md). -/

/-- R350 to R354: NOP, SLOT_CLEAR, SLOT_COPY and SLOT_CONCAT, the OVERFLOW of the last, and CT_CMP, which reports
whether the two sequences are equal. -/
def Obligations.SystemCommands : Prop :=
  ∀ (s : State) (rd rs1 rs2 : Slot),
    CompletesOk (exec .nop s) s s.slot 0 ∧
    CompletesOk (exec (.slotClear rd) s) s (written s rd []) 0 ∧
    ((s.slot rs1).length ≤ Config.slotMax →
      CompletesOk (exec (.slotCopy rd rs1) s) s (written s rd (s.slot rs1)) (BitVec.ofNat 32 (s.slot rs1).length)) ∧
    ((s.slot rs1).length + (s.slot rs2).length ≤ Config.slotMax →
      CompletesOk (exec (.slotConcat rd rs1 rs2) s) s (written s rd (s.slot rs1 ++ s.slot rs2))
        (BitVec.ofNat 32 ((s.slot rs1).length + (s.slot rs2).length))) ∧
    (Config.slotMax < (s.slot rs1).length + (s.slot rs2).length →
      FailsWith (exec (.slotConcat rd rs1 rs2) s) s [rd] .overflow) ∧
    CompletesOk (exec (.ctCmp rs1 rs2) s) s s.slot (if s.slot rs1 = s.slot rs2 then 1 else 0)

/-! Hash commands (40_hash.md). -/

/-- R128 to R130: HASH of any message, the digest 32, 48 or 64 bytes. -/
def Obligations.HashCommands : Prop :=
  ∀ (v : Variant) (s : State) (rd rs1 : Slot),
    CompletesOk (exec (hashInstr v rd rs1) s) s (written s rd (shaHash v (s.slot rs1))) 0 ∧
    (shaHash v (s.slot rs1)).length = (match v with | .sha256 => 32 | .sha384 => 48 | .sha512 => 64)

/-- R122: the padding of a message. -/
def Obligations.PaddingRule : Prop :=
  ∀ (v : Variant) (m : Bytes),
    (∃ z, shaPad v m = m ++ [0x80#8] ++ zeros z ++ toBe (8 * m.length) (lengthField v) ∧
      (m.length + 1 + z + lengthField v) % blockLen v = 0 ∧
      ∀ z', (m.length + 1 + z' + lengthField v) % blockLen v = 0 → z ≤ z') ∧
    (shaPad v m).length = blockLen v * ((m.length + lengthField v) / blockLen v + 1) ∧
    (m.length ≤ Config.slotMax → be (toBe (8 * m.length) (lengthField v)) = 8 * m.length)

/-- R132: SHA_PAD writes the padded message and reports the number of blocks, or OVERFLOW before any work. -/
def Obligations.PadCommands : Prop :=
  ∀ (v : Variant) (s : State) (rd rs1 : Slot),
    (blockLen v * (((s.slot rs1).length + lengthField v) / blockLen v + 1) ≤ Config.slotMax →
      CompletesOk (exec (padInstr v rd rs1) s) s (written s rd (shaPad v (s.slot rs1)))
        (BitVec.ofNat 32 ((shaPad v (s.slot rs1)).length / blockLen v))) ∧
    (Config.slotMax < blockLen v * (((s.slot rs1).length + lengthField v) / blockLen v + 1) →
      FailsWith (exec (padInstr v rd rs1) s) s [rd] .overflow)

/-- R133 with the values of R124 and R125: SHA_IV writes the initial state. -/
def Obligations.IvCommands : Prop :=
  ∀ (s : State) (rd : Slot),
    CompletesOk (exec (.shaIvSha256 rd) s) s
      (written s rd (toBe 0x6a09e667bb67ae853c6ef372a54ff53a510e527f9b05688c1f83d9ab5be0cd19 32)) 0 ∧
    CompletesOk (exec (.shaIvSha384 rd) s) s
      (written s rd (toBe 0xcbbb9d5dc1059ed8629a292a367cd5079159015a3070dd17152fecd8f70e593967332667ffc00b318eb44a8768581511db0c2e0d64f98fa747b5481dbefa4fa4 64)) 0 ∧
    CompletesOk (exec (.shaIvSha512 rd) s) s
      (written s rd (toBe 0x6a09e667f3bcc908bb67ae8584caa73b3c6ef372fe94f82ba54ff53a5f1d36f1510e527fade682d19b05688c2b3e6c1f1f83d9abfb41bd6b5be0cd19137e2179 64)) 0

/-- R131: SHA_COMPRESS is one compression on states held as eight big-endian words, the same function for SHA384
and SHA512, with no truncation; a state or block of another length is refused, the first one named. -/
def Obligations.CompressCommands : Prop :=
  ∀ (v : Variant) (s : State) (rd rs1 rs2 : Slot),
    ((s.slot rs1).length = stateLen v → (s.slot rs2).length = blockLen v →
      CompletesOk (exec (compressInstr v rd rs1 rs2) s) s
        (written s rd
          (match v with
            | .sha256 => storeWords (compress256 (loadEight 32 (s.slot rs1)) (s.slot rs2))
            | .sha384 => storeWords (compress512 (loadEight 64 (s.slot rs1)) (s.slot rs2))
            | .sha512 => storeWords (compress512 (loadEight 64 (s.slot rs1)) (s.slot rs2)))) 0) ∧
    ((s.slot rs1).length ≠ stateLen v → FailsWith (exec (compressInstr v rd rs1 rs2) s) s [rd] (.badLength 1)) ∧
    ((s.slot rs1).length = stateLen v → (s.slot rs2).length ≠ blockLen v →
      FailsWith (exec (compressInstr v rd rs1 rs2) s) s [rd] (.badLength 2))

/-- R135: the hash of a message is the compression folded over the blocks of the padded message, from the initial
state, cut to the digest length. -/
def Obligations.HashComposition : Prop :=
  ∀ (v : Variant) (m : Bytes),
    shaHash v m = ((chunks (blockLen v) (shaPad v m)).foldl (compressBytes v) (ivBytes v)).take (hashLen v)

/-- R126, R127: the message schedule. -/
def Obligations.MessageSchedule : Prop :=
  (∀ blk : Bytes, blk.length = 64 →
    let W := messageSchedule smallSigma0W32 smallSigma1W32 64 blk
    W.length = 64 ∧ (∀ t, t < 16 → W.getD t 0 = BitVec.ofNat 32 (be (slice blk (4 * t) (4 * t + 4)))) ∧
    (∀ t, 16 ≤ t → t < 64 → W.getD t 0 =
      smallSigma1W32 (W.getD (t - 2) 0) + W.getD (t - 7) 0 + smallSigma0W32 (W.getD (t - 15) 0) + W.getD (t - 16) 0)) ∧
  (∀ blk : Bytes, blk.length = 128 →
    let W := messageSchedule smallSigma0W64 smallSigma1W64 80 blk
    W.length = 80 ∧ (∀ t, t < 16 → W.getD t 0 = BitVec.ofNat 64 (be (slice blk (8 * t) (8 * t + 8)))) ∧
    (∀ t, 16 ≤ t → t < 80 → W.getD t 0 =
      smallSigma1W64 (W.getD (t - 2) 0) + W.getD (t - 7) 0 + smallSigma0W64 (W.getD (t - 15) 0) + W.getD (t - 16) 0))

/-! MAC and key derivation (41_mac_kdf.md). -/

/-- R150 to R153: HMAC and HKDF_EXTRACT, the same function, on keys and messages of any length. -/
def Obligations.HmacCommands : Prop :=
  ∀ (v : Variant) (s : State) (rd rs1 rs2 : Slot),
    ∃ k0 : Bytes, k0.length = blockLen v ∧
      ((s.slot rs1).length ≤ blockLen v → k0 = s.slot rs1 ++ zeros (blockLen v - (s.slot rs1).length)) ∧
      (blockLen v < (s.slot rs1).length → k0 = shaHash v (s.slot rs1) ++ zeros (blockLen v - hashLen v)) ∧
      ∀ i, i = hmacInstr v rd rs1 rs2 ∨ i = extractInstr v rd rs1 rs2 →
        CompletesOk (exec i s) s
          (written s rd
            (shaHash v (k0.map (fun x => x ^^^ 0x5c#8) ++ shaHash v (k0.map (fun x => x ^^^ 0x36#8) ++ s.slot rs2)))) 0

/-- R155: HKDF_EXPAND writes exactly `L` bytes, or BAD_IMM when `L` is above 255 times the digest length. -/
def Obligations.ExpandCommands : Prop :=
  ∀ (v : Variant) (s : State) (rd rs1 rs2 : Slot) (imm : Word32),
    (imm.toNat ≤ 255 * hashLen v →
      CompletesOk (exec (expandInstr v rd rs1 rs2 imm) s) s
        (written s rd (hkdfExpand v (s.slot rs1) (s.slot rs2) imm.toNat)) 0 ∧
      (hkdfExpand v (s.slot rs1) (s.slot rs2) imm.toNat).length = imm.toNat) ∧
    (255 * hashLen v < imm.toNat → FailsWith (exec (expandInstr v rd rs1 rs2 imm) s) s [rd] .badImm)

/-- R154: the blocks `T(i)`; outputs for growing lengths are prefixes of one another. -/
def Obligations.ExpandRecurrence : Prop :=
  ∀ (v : Variant) (prk info : Bytes) (len : Nat),
    (∃ T : Nat → Bytes, T 0 = [] ∧ (∀ i, T (i + 1) = hmac v prk (T i ++ info ++ toBe (i + 1) 1)) ∧
      hkdfExpand v prk info len =
        (((List.range ((len + hashLen v - 1) / hashLen v)).map fun i => T (i + 1)).flatten).take len) ∧
    ∀ len', len' ≤ len → hkdfExpand v prk info len' = (hkdfExpand v prk info len).take len'

/-- R156, R157: HKDF_EXPAND_LABEL and its failures in their order. -/
def Obligations.ExpandLabelCommands : Prop :=
  ∀ (v : Variant) (s : State) (rd rs1 rs2 rs3 : Slot) (imm : Word32),
    (imm.toNat ≤ 255 * hashLen v → (s.slot rs2).length ≤ 249 → (s.slot rs3).length ≤ 255 →
      CompletesOk (exec (expandLabelInstr v rd rs1 rs2 rs3 imm) s) s
        (written s rd
          (hkdfExpand v (s.slot rs1)
            (toBe imm.toNat 2 ++ toBe (6 + (s.slot rs2).length) 1 ++ [0x74, 0x6c, 0x73, 0x31, 0x33, 0x20] ++ s.slot rs2 ++
              toBe (s.slot rs3).length 1 ++ s.slot rs3) imm.toNat)) 0) ∧
    (255 * hashLen v < imm.toNat → FailsWith (exec (expandLabelInstr v rd rs1 rs2 rs3 imm) s) s [rd] .badImm) ∧
    (imm.toNat ≤ 255 * hashLen v → 249 < (s.slot rs2).length →
      FailsWith (exec (expandLabelInstr v rd rs1 rs2 rs3 imm) s) s [rd] (.badLength 2)) ∧
    (imm.toNat ≤ 255 * hashLen v → (s.slot rs2).length ≤ 249 → 255 < (s.slot rs3).length →
      FailsWith (exec (expandLabelInstr v rd rs1 rs2 rs3 imm) s) s [rd] (.badLength 3))

/-! AES-128 and GCM (42_aes_gcm.md). -/

/-- R176, R178, R182, R184, R187: the primitive commands of the AES family, and what they refuse. -/
def Obligations.AesCommands : Prop :=
  ∀ (s : State) (rd rs1 rs2 rs3 : Slot),
    ((s.slot rs1).length = 16 →
      CompletesOk (exec (.aesKeyexp rd rs1) s) s (written s rd (aesKeyExpand (s.slot rs1))) 0 ∧
      CompletesOk (exec (.ghash rd rs1 rs2 rs3) s) s (written s rd (ghash (s.slot rs1) (s.slot rs2) (s.slot rs3))) 0) ∧
    ((s.slot rs1).length = 16 → (s.slot rs2).length = 16 →
      CompletesOk (exec (.aesEnc rd rs1 rs2) s) s
        (written s rd (aesEncrypt (aesKeyExpand (s.slot rs1)) (s.slot rs2))) 0 ∧
      CompletesOk (exec (.gf128Mul rd rs1 rs2) s) s (written s rd (gf128Mul (s.slot rs1) (s.slot rs2))) 0 ∧
      CompletesOk (exec (.aesCtr rd rs1 rs2 rs3) s) s
        (written s rd (aesCtr (s.slot rs1) (s.slot rs2) (s.slot rs3))) 0) ∧
    ((s.slot rs1).length ≠ 16 →
      ∀ i ∈ [Instr.aesKeyexp rd rs1, .aesEnc rd rs1 rs2, .gf128Mul rd rs1 rs2, .ghash rd rs1 rs2 rs3,
        .aesCtr rd rs1 rs2 rs3], FailsWith (exec i s) s [rd] (.badLength 1)) ∧
    ((s.slot rs1).length = 16 → (s.slot rs2).length ≠ 16 →
      ∀ i ∈ [Instr.aesEnc rd rs1 rs2, .gf128Mul rd rs1 rs2, .aesCtr rd rs1 rs2 rs3],
        FailsWith (exec i s) s [rd] (.badLength 2))

/-- R175: the key schedule, word by word. -/
def Obligations.KeySchedule : Prop :=
  ∀ key : Bytes, key.length = 16 →
    let w := fun i => slice (aesKeyExpand key) (4 * i) (4 * i + 4)
    (aesKeyExpand key).length = 176 ∧ (∀ i, i < 4 → w i = slice key (4 * i) (4 * i + 4)) ∧
    (∀ i, 4 ≤ i → i < 44 → i % 4 ≠ 0 → w i = xorBytes (w (i - 4)) (w (i - 1))) ∧
    (∀ i, 4 ≤ i → i < 44 → i % 4 = 0 → w i = xorBytes (w (i - 4))
      [subByte ((w (i - 1)).getD 1 0) ^^^ rcon.getD (i / 4) 0, subByte ((w (i - 1)).getD 2 0),
        subByte ((w (i - 1)).getD 3 0), subByte ((w (i - 1)).getD 0 0)])

/-- R180, R181: the product of two blocks is the product of the polynomials over GF(2) modulo
x^128 + x^7 + x^2 + x + 1, bit 127 - i of the big-endian number being the coefficient of x^i; and the laws the rule
states of it: commutative, associative, distributing over exclusive or, with a one and a zero. -/
def Obligations.Gf128IsPolynomialProduct : Prop :=
  let poly := fun x : BitVec 128 =>
    ∑ i ∈ Finset.range 128, if x.getLsbD (127 - i) then (Polynomial.X : Polynomial (ZMod 2)) ^ i else 0
  ∀ a b : Bytes, a.length = 16 → b.length = 16 →
    (gf128Mul a b).length = 16 ∧
    poly (blockWord (gf128Mul a b)) =
      (poly (blockWord a) * poly (blockWord b)) %ₘ
        (Polynomial.X ^ 128 + Polynomial.X ^ 7 + Polynomial.X ^ 2 + Polynomial.X + 1) ∧
    gf128Mul a b = gf128Mul b a ∧ gf128Mul a (0x80#8 :: zeros 15) = a ∧ gf128Mul a (zeros 16) = zeros 16 ∧
    ∀ c : Bytes, c.length = 16 →
      gf128Mul a (gf128Mul b c) = gf128Mul (gf128Mul a b) c ∧
      gf128Mul a (xorBytes b c) = xorBytes (gf128Mul a b) (gf128Mul a c)

/-- R185, R186: the keystream byte by byte, the counter block stepped once per 16 bytes, its last four bytes
wrapping; counter mode is its own inverse. -/
def Obligations.CounterMode : Prop :=
  (∀ key icb data : Bytes,
    (aesCtr key icb data).length = data.length ∧
    (∀ i, i < data.length → (aesCtr key icb data).getD i 0 =
      data.getD i 0 ^^^ (aesEncrypt (aesKeyExpand key) (inc32^[i / 16] icb)).getD (i % 16) 0) ∧
    aesCtr key icb (aesCtr key icb data) = data) ∧
  (∀ cb : Bytes, cb.length = 16 →
    (inc32 cb).length = 16 ∧ slice (inc32 cb) 0 12 = slice cb 0 12 ∧
    be (slice (inc32 cb) 12 16) = (be (slice cb 12 16) + 1) % 2 ^ 32)

/-- R188, R189: GCM_ENC, the ciphertext under counter 2 on and the tag under counter 1; its failures. -/
def Obligations.GcmEncrypts : Prop :=
  ∀ (s : State) (rd rd2 rs1 rs2 rs3 rs4 : Slot),
    (rd ≠ rd2 → (s.slot rs1).length = 16 → (s.slot rs2).length = 12 →
      let c := aesCtr (s.slot rs1) (s.slot rs2 ++ [0, 0, 0, 2]) (s.slot rs4)
      let tag := xorBytes (ghash (aes (s.slot rs1) (zeros 16)) (s.slot rs3) c)
        (aes (s.slot rs1) (s.slot rs2 ++ [0, 0, 0, 1]))
      CompletesOk (exec (.gcmEnc rd rd2 rs1 rs2 rs3 rs4) s) s (written2 s rd c rd2 tag) 0 ∧
      c.length = (s.slot rs4).length ∧ tag.length = 16) ∧
    (rd = rd2 → FailsWith (exec (.gcmEnc rd rd2 rs1 rs2 rs3 rs4) s) s [] .operandAlias) ∧
    (rd ≠ rd2 → (s.slot rs1).length ≠ 16 →
      FailsWith (exec (.gcmEnc rd rd2 rs1 rs2 rs3 rs4) s) s [rd, rd2] (.badLength 1)) ∧
    (rd ≠ rd2 → (s.slot rs1).length = 16 → (s.slot rs2).length ≠ 12 →
      FailsWith (exec (.gcmEnc rd rd2 rs1 rs2 rs3 rs4) s) s [rd, rd2] (.badLength 2))

/-- R188, R190: GCM_DEC releases the plaintext when the tag is the recomputed one, and nothing otherwise. -/
def Obligations.GcmDecrypts : Prop :=
  ∀ (s : State) (rd rs1 rs2 rs3 rs4 rs5 : Slot),
    ((s.slot rs1).length = 16 → (s.slot rs2).length = 12 → (s.slot rs5).length = 16 →
      let tag := xorBytes (ghash (aes (s.slot rs1) (zeros 16)) (s.slot rs3) (s.slot rs4))
        (aes (s.slot rs1) (s.slot rs2 ++ [0, 0, 0, 1]))
      (tag = s.slot rs5 → CompletesOk (exec (.gcmDec rd rs1 rs2 rs3 rs4 rs5) s) s
        (written s rd (aesCtr (s.slot rs1) (s.slot rs2 ++ [0, 0, 0, 2]) (s.slot rs4))) 0) ∧
      (tag ≠ s.slot rs5 → FailsWith (exec (.gcmDec rd rs1 rs2 rs3 rs4 rs5) s) s [rd] .authFail)) ∧
    ((s.slot rs1).length ≠ 16 → FailsWith (exec (.gcmDec rd rs1 rs2 rs3 rs4 rs5) s) s [rd] (.badLength 1)) ∧
    ((s.slot rs1).length = 16 → (s.slot rs2).length ≠ 12 →
      FailsWith (exec (.gcmDec rd rs1 rs2 rs3 rs4 rs5) s) s [rd] (.badLength 2)) ∧
    ((s.slot rs1).length = 16 → (s.slot rs2).length = 12 → (s.slot rs5).length ≠ 16 →
      FailsWith (exec (.gcmDec rd rs1 rs2 rs3 rs4 rs5) s) s [rd] (.badLength 5))

/-- R189, R190: what GCM_ENC wrote, GCM_DEC turns back into the plaintext; with any other 16-byte tag it ends with
AUTH_FAIL. An encryption that writes over its key, IV or additional data leaves GCM_DEC other operands and is not
spoken of. -/
def Obligations.GcmRoundTrip : Prop :=
  ∀ (s s' : State) (k iv a p c tag d : Slot), c ≠ tag → c ≠ k → c ≠ iv → c ≠ a → tag ≠ k → tag ≠ iv → tag ≠ a →
    (s.slot k).length = 16 → (s.slot iv).length = 12 → exec (.gcmEnc c tag k iv a p) s = .next s' →
    CompletesOk (exec (.gcmDec d k iv a c tag) s') s' (written s' d (s.slot p)) 0 ∧
    ∀ x : Bytes, x.length = 16 → x ≠ s'.slot tag →
      FailsWith (exec (.gcmDec d k iv a c tag) (s'.setSlot tag x)) (s'.setSlot tag x) [d] .authFail

/-! ChaCha20 and Poly1305 (43_chacha_poly.md). -/

/-- R213, R215, R221: CHACHA20_BLOCK, CHACHA20_XOR and POLY1305, and what they refuse. -/
def Obligations.ChaChaCommands : Prop :=
  ∀ (s : State) (rd rs1 rs2 rs3 : Slot) (imm : Word32),
    ((s.slot rs1).length = 32 → (s.slot rs2).length = 12 →
      CompletesOk (exec (.chacha20Block rd rs1 rs2 imm) s) s
        (written s rd (chachaBlock (s.slot rs1) (s.slot rs2) imm)) 0 ∧
      CompletesOk (exec (.chacha20Xor rd rs1 rs2 rs3 imm) s) s
        (written s rd (chachaXor (s.slot rs1) (s.slot rs2) imm (s.slot rs3))) 0) ∧
    ((s.slot rs1).length = 32 →
      CompletesOk (exec (.poly1305 rd rs1 rs2) s) s (written s rd (poly1305 (s.slot rs1) (s.slot rs2))) 0) ∧
    ((s.slot rs1).length ≠ 32 →
      ∀ i ∈ [Instr.chacha20Block rd rs1 rs2 imm, .chacha20Xor rd rs1 rs2 rs3 imm, .poly1305 rd rs1 rs2],
        FailsWith (exec i s) s [rd] (.badLength 1)) ∧
    ((s.slot rs1).length = 32 → (s.slot rs2).length ≠ 12 →
      ∀ i ∈ [Instr.chacha20Block rd rs1 rs2 imm, .chacha20Xor rd rs1 rs2 rs3 imm],
        FailsWith (exec i s) s [rd] (.badLength 2))

/-- R214: the keystream byte by byte, the block counter modulo 2^32; the function is its own inverse. -/
def Obligations.ChaChaKeystream : Prop :=
  ∀ (key nonce data : Bytes) (counter : Word32), key.length = 32 → nonce.length = 12 →
    (chachaXor key nonce counter data).length = data.length ∧
    (∀ i, i < data.length → (chachaXor key nonce counter data).getD i 0 =
      data.getD i 0 ^^^ (chachaBlock key nonce (counter + BitVec.ofNat 32 (i / 64))).getD (i % 64) 0) ∧
    chachaXor key nonce counter (chachaXor key nonce counter data) = data

/-- R217 to R220: the tag is a polynomial in the clamped `r`, the chunks its coefficients, reduced modulo
2^130 - 5, plus `s`, cut to 128 bits. -/
def Obligations.Poly1305IsPolynomial : Prop :=
  ∀ otk msg : Bytes,
    let n := (msg.length + 15) / 16
    let coefficient := fun j =>
      le (slice msg (16 * j) (16 * j + 16)) + 2 ^ (8 * (slice msg (16 * j) (16 * j + 16)).length)
    let r := le (slice otk 0 16) &&& 0x0ffffffc0ffffffc0ffffffc0fffffff
    le (poly1305 otk msg) =
      (((List.range n).map fun j => coefficient j * r ^ (n - j)).sum % (2 ^ 130 - 5) + le (slice otk 16 32)) % 2 ^ 128

/-- R222 to R226: CCP_ENC and CCP_DEC, and their failures. -/
def Obligations.CcpCommands : Prop :=
  ∀ (s : State) (rd rd2 rs1 rs2 rs3 rs4 rs5 : Slot),
    let tag := fun c => poly1305 ((chachaBlock (s.slot rs1) (s.slot rs2) 0).take 32)
      (pad16 (s.slot rs3) ++ pad16 c ++ toLe (s.slot rs3).length 8 ++ toLe c.length 8)
    ((s.slot rs1).length = 32 → (s.slot rs2).length = 12 →
      let c := chachaXor (s.slot rs1) (s.slot rs2) 1 (s.slot rs4)
      (rd ≠ rd2 → CompletesOk (exec (.ccpEnc rd rd2 rs1 rs2 rs3 rs4) s) s (written2 s rd c rd2 (tag c)) 0) ∧
      ((s.slot rs5).length = 16 → tag (s.slot rs4) = s.slot rs5 →
        CompletesOk (exec (.ccpDec rd rs1 rs2 rs3 rs4 rs5) s) s (written s rd c) 0) ∧
      ((s.slot rs5).length = 16 → tag (s.slot rs4) ≠ s.slot rs5 →
        FailsWith (exec (.ccpDec rd rs1 rs2 rs3 rs4 rs5) s) s [rd] .authFail) ∧
      ((s.slot rs5).length ≠ 16 → FailsWith (exec (.ccpDec rd rs1 rs2 rs3 rs4 rs5) s) s [rd] (.badLength 5))) ∧
    (rd = rd2 → FailsWith (exec (.ccpEnc rd rd2 rs1 rs2 rs3 rs4) s) s [] .operandAlias) ∧
    ((s.slot rs1).length ≠ 32 →
      (rd ≠ rd2 → FailsWith (exec (.ccpEnc rd rd2 rs1 rs2 rs3 rs4) s) s [rd, rd2] (.badLength 1)) ∧
      FailsWith (exec (.ccpDec rd rs1 rs2 rs3 rs4 rs5) s) s [rd] (.badLength 1)) ∧
    ((s.slot rs1).length = 32 → (s.slot rs2).length ≠ 12 →
      (rd ≠ rd2 → FailsWith (exec (.ccpEnc rd rd2 rs1 rs2 rs3 rs4) s) s [rd, rd2] (.badLength 2)) ∧
      FailsWith (exec (.ccpDec rd rs1 rs2 rs3 rs4 rs5) s) s [rd] (.badLength 2))

/-- R227 (a): what CCP_ENC wrote, CCP_DEC turns back into the plaintext; with any other 16-byte tag it ends with
AUTH_FAIL. An encryption that writes over its key, nonce or additional data leaves CCP_DEC other operands and is not
spoken of. -/
def Obligations.CcpRoundTrip : Prop :=
  ∀ (s s' : State) (k iv a p c tag d : Slot), c ≠ tag → c ≠ k → c ≠ iv → c ≠ a → tag ≠ k → tag ≠ iv → tag ≠ a →
    (s.slot k).length = 32 → (s.slot iv).length = 12 → exec (.ccpEnc c tag k iv a p) s = .next s' →
    CompletesOk (exec (.ccpDec d k iv a c tag) s') s' (written s' d (s.slot p)) 0 ∧
    ∀ x : Bytes, x.length = 16 → x ≠ s'.slot tag →
      FailsWith (exec (.ccpDec d k iv a c tag) (s'.setSlot tag x)) (s'.setSlot tag x) [d] .authFail

/-! X25519 (44_x25519.md). -/

/-- R242 to R244, R247 to R249: the five commands on 32-byte operands, the inverse being the power `p - 2` modulo
`p`, and what they refuse. -/
def Obligations.X25519Commands : Prop :=
  ∀ (s : State) (rd rd2 rs1 rs2 : Slot),
    let p := 2 ^ 255 - 19
    let a := le (s.slot rs1)
    let b := le (s.slot rs2)
    let xz := ladder (a % 2 ^ 255) (b % p)
    ((s.slot rs1).length = 32 →
      CompletesOk (exec (.gfInv rd rs1) s) s (written s rd (toLe ((a % p) ^ (p - 2) % p) 32)) 0 ∧
      CompletesOk (exec (.x25519Base rd rs1) s) s (written s rd (x25519 (s.slot rs1) (toLe 9 32))) 0 ∧
      ((s.slot rs2).length = 32 →
        CompletesOk (exec (.gfMul rd rs1 rs2) s) s (written s rd (toLe (a % p * (b % p) % p) 32)) 0 ∧
        CompletesOk (exec (.x25519 rd rs1 rs2) s) s (written s rd (x25519 (s.slot rs1) (s.slot rs2))) 0 ∧
        (rd ≠ rd2 → CompletesOk (exec (.ladder rd rd2 rs1 rs2) s) s
          (written2 s rd (toLe xz.1 32) rd2 (toLe xz.2 32)) 0))) ∧
    (rd = rd2 → FailsWith (exec (.ladder rd rd2 rs1 rs2) s) s [] .operandAlias) ∧
    ((s.slot rs1).length ≠ 32 →
      (∀ i ∈ [Instr.gfInv rd rs1, .x25519Base rd rs1, .gfMul rd rs1 rs2, .x25519 rd rs1 rs2],
        FailsWith (exec i s) s [rd] (.badLength 1)) ∧
      (rd ≠ rd2 → FailsWith (exec (.ladder rd rd2 rs1 rs2) s) s [rd, rd2] (.badLength 1))) ∧
    ((s.slot rs1).length = 32 → (s.slot rs2).length ≠ 32 →
      (∀ i ∈ [Instr.gfMul rd rs1 rs2, .x25519 rd rs1 rs2], FailsWith (exec i s) s [rd] (.badLength 2)) ∧
      (rd ≠ rd2 → FailsWith (exec (.ladder rd rd2 rs1 rs2) s) s [rd, rd2] (.badLength 2)))

/-- R245, R250: clamping puts the scalar in its range, and LADDER, GF_INV and GF_MUL on the clamped scalar and the
masked point give what X25519 gives. -/
def Obligations.X25519Composition : Prop :=
  ∀ (s : State) (sc pt : Bytes) (k u x z out : Slot), sc.length = 32 → pt.length = 32 → x ≠ z →
    s.slot k = clampScalar sc → s.slot u = toLe (le pt % 2 ^ 255) 32 →
    2 ^ 254 ≤ le (clampScalar sc) ∧ le (clampScalar sc) < 2 ^ 255 ∧ le (clampScalar sc) % 8 = 0 ∧
    ∃ s1 s2 s3, exec (.ladder x z k u) s = .next s1 ∧ exec (.gfInv z z) s1 = .next s2 ∧
      exec (.gfMul out x z) s2 = .next s3 ∧ s3.result = .ok ∧ s3.slot out = x25519 sc pt

/-! DER (45_der.md). -/

/-- R278: DER_PARSE writes the table of the elements in pre-order and reports their number, or PARSE_ERROR, or
OVERFLOW. Byte 2 of a record (`nodeRecord`) is the model's free value for a depth above 255 (log 5). -/
def Obligations.DerParseCommand : Prop :=
  ∀ (s : State) (rd rs1 : Slot),
    (∀ es, parseDer (s.slot rs1) = some es →
      let nodes := preorderList 0 es
      if 16 * nodes.length ≤ Config.slotMax then
        CompletesOk (exec (.derParse rd rs1) s) s (written s rd (nodes.flatMap nodeRecord))
          (BitVec.ofNat 32 nodes.length)
      else FailsWith (exec (.derParse rd rs1) s) s [rd] .overflow) ∧
    (parseDer (s.slot rs1) = none → FailsWith (exec (.derParse rd rs1) s) s [rd] .parseError)

/-- R270 to R276: a buffer parses into a list of elements exactly when these follow each other in it without a gap, the
children of a constructed element filling its content, each with its identifier, its length and its content at its
offsets, and the limits of depth and number are kept. So what a parse delivers is what stands in the buffer, and
every well-formed buffer within the limits parses (the recursion bound of log 13 is never what stops it). -/
def Obligations.DerTreeIsFaithful : Prop :=
  ∀ (buf : Bytes) (es : List Element),
    parseDer buf = some es ↔
      tiledList 0 buf.length es ∧ (preorderList 0 es).length ≤ Config.derMaxNodes ∧
        ∀ dn ∈ preorderList 0 es, dn.1 < Config.derMaxDepth ∧ nodeStandsIn buf dn.2

/-- R277, R300: every non-empty proper prefix of a buffer that is one element fails to parse, and CERT_PARSE
refuses every proper prefix. The empty prefix is left out of the first clause, since R275 and R278 let the empty input
parse (log 14). -/
def Obligations.TruncationFails : Prop :=
  ∀ (buf : Bytes) (e : Element) (n : Nat), parseDer buf = some [e] → n < buf.length →
    (0 < n → parseDer (buf.take n) = none) ∧ parseCertificate (buf.take n) = none

/-! Certificates (46_certificate.md). -/

/-- R299, R380, R316, R323: BAD_INDEX before anything else; then BAD_LENGTH for a time that is not 8 bytes, whatever the
entry holds; then NO_CERT for an entry that is invalid. -/
def Obligations.CertificateIndex : Prop :=
  ∀ (s : State) (rd rs1 rs2 : Slot) (imm : Word32),
    (16 ≤ imm.toNat →
      (∀ i ∈ [Instr.certParse rs1 imm, .certBc imm, .certKu imm, .certHostname rs1 imm, .certValidity rs1 imm,
        .tsQuery imm, .ocspCheck rs1 rs2 imm], FailsWith (exec i s) s [] .badIndex) ∧
      FailsWith (exec (.certSan rd imm) s) s [rd] .badIndex) ∧
    (imm.toNat < 16 → s.cert imm.toNat = none →
      (∀ i ∈ [Instr.certBc imm, .certKu imm, .certHostname rs1 imm, .tsQuery imm],
        FailsWith (exec i s) s [] .noCert) ∧
      FailsWith (exec (.certSan rd imm) s) s [rd] .noCert ∧
      (∀ i ∈ [Instr.certValidity rs1 imm, .ocspCheck rs1 rs2 imm],
        (s.slot rs1).length = 8 → FailsWith (exec i s) s [] .noCert)) ∧
    (imm.toNat < 16 → (s.slot rs1).length ≠ 8 →
      ∀ i ∈ [Instr.certValidity rs1 imm, .ocspCheck rs1 rs2 imm], FailsWith (exec i s) s [] (.badLength 1))

/-- R300, R303: CERT_PARSE fills the entry with the record, or makes it invalid, whatever it held; no other entry
and no slot changes; BAD_INDEX changes nothing. -/
def Obligations.CertParseCommand : Prop :=
  ∀ (s : State) (rs1 : Slot) (imm : Word32),
    (16 ≤ imm.toNat → FailsWith (exec (.certParse rs1 imm) s) s [] .badIndex) ∧
    (∀ r, imm.toNat < 16 → parseCertificate (s.slot rs1) = some r → r.rawBytes = s.slot rs1 ∧
      ∃ t, exec (.certParse rs1 imm) s = .next t ∧ Ended s t .ok r.version 0 ∧ (∀ j, t.slot j = s.slot j) ∧
        (∀ k, t.cert k = if k = imm.toNat then some r else s.cert k) ∧ t.ts = s.ts) ∧
    (imm.toNat < 16 → parseCertificate (s.slot rs1) = none →
      ∃ t, exec (.certParse rs1 imm) s = .next t ∧ Ended s t .parseError 0 0 ∧ (∀ j, t.slot j = s.slot j) ∧
        (∀ k, t.cert k = if k = imm.toNat then none else s.cert k) ∧ t.ts = s.ts)

/-- R307: CERT_FIELD, the bytes and RETVAL of each field, and its failures in their order. -/
def Obligations.CertFieldCommand : Prop :=
  ∀ (s : State) (rd : Slot) (imm : Word32),
    let fid := imm.toNat % 256
    let idx := imm.toNat / 256
    (65536 ≤ imm.toNat ∨ 13 < fid → FailsWith (exec (.certField rd imm) s) s [rd] .badImm) ∧
    (imm.toNat < 65536 → fid ≤ 13 →
      (16 ≤ idx → FailsWith (exec (.certField rd imm) s) s [rd] .badIndex) ∧
      (idx < 16 → s.cert idx = none → FailsWith (exec (.certField rd imm) s) s [rd] .noCert) ∧
      (∀ r, idx < 16 → s.cert idx = some r →
        let pairs := fun l : List NameAttr =>
          l.flatMap fun a => toBe a.oid.length 4 ++ a.oid ++ toBe a.value.length 4 ++ a.value
        let field : Bytes × Nat :=
          match fid with
          | 0 => (toBe r.version.toNat 4, r.version.toNat)
          | 1 => (r.serialNumber, 0)
          | 2 => (pairs r.issuer, r.issuer.length)
          | 3 => (pairs r.subject, r.subject.length)
          | 4 => (toBe r.notBefore.toNat 8, 0)
          | 5 => (toBe r.notAfter.toNat 8, 0)
          | 6 => (r.publicKeyAlgorithm, 0)
          | 7 => (r.publicKeyBytes, 0)
          | 8 => (r.extensions.flatMap fun e =>
              toBe e.oid.length 4 ++ e.oid ++ [if e.critical = true then 1 else 0] ++ toBe e.value.length 4 ++ e.value,
              r.extensions.length)
          | 9 => (r.signatureAlgorithm, 0)
          | 10 => (r.signatureBytes, 0)
          | 11 => (r.tbsCertificateBytes, 0)
          | 12 => (r.rawBytes, 0)
          | _ => (shaHash .sha256 r.rawBytes, 0)
        (field.1.length ≤ Config.slotMax →
          CompletesOk (exec (.certField rd imm) s) s (written s rd field.1) (BitVec.ofNat 32 field.2)) ∧
        (Config.slotMax < field.1.length → FailsWith (exec (.certField rd imm) s) s [rd] .overflow)))

/-- R308 to R311: CERT_SAN, CERT_BC and CERT_KU on an extension that is absent, malformed or present; which of these it
is, and what a present one says, is `Obligations.ExtensionViews`. -/
def Obligations.ExtensionCommands : Prop :=
  ∀ (s : State) (rd : Slot) (imm : Word32) (r : CertRecord), imm.toNat < 16 → s.cert imm.toNat = some r →
    (san r = .absent → CompletesOk (exec (.certSan rd imm) s) s (written s rd []) 0) ∧
    (san r = .malformed → FailsWith (exec (.certSan rd imm) s) s [rd] .parseError) ∧
    (∀ names, san r = .present names →
      let out := names.flatMap fun n => toBe n.length 4 ++ n
      if out.length ≤ Config.slotMax then
        CompletesOk (exec (.certSan rd imm) s) s (written s rd out) (BitVec.ofNat 32 (2 ^ 31 + names.length))
      else FailsWith (exec (.certSan rd imm) s) s [rd] .overflow) ∧
    (basicConstraints r = .absent → CompletesOk (exec (.certBc imm) s) s s.slot 0) ∧
    (basicConstraints r = .malformed → FailsWith (exec (.certBc imm) s) s [] .parseError) ∧
    (∀ b, basicConstraints r = .present b →
      b.pathLen.getD 0 < 2 ^ 24 ∧
      CompletesOk (exec (.certBc imm) s) s s.slot
        (BitVec.ofNat 32 (1 + 2 * b.isCA.toNat + 4 * b.pathLen.isSome.toNat + 256 * b.pathLen.getD 0))) ∧
    (keyUsage r = .absent → CompletesOk (exec (.certKu imm) s) s s.slot 0) ∧
    (keyUsage r = .malformed → FailsWith (exec (.certKu imm) s) s [] .parseError) ∧
    (∀ mask, keyUsage r = .present mask →
      CompletesOk (exec (.certKu imm) s) s s.slot (BitVec.ofNat 32 (65536 + mask.toNat)))

/-- R312 to R314: HOSTNAME_MATCH and CERT_HOSTNAME; a leading `*.` stands for exactly one non-empty label, a
present subjectAltName decides alone, and without one the last Common Name does. -/
def Obligations.HostnameCommands : Prop :=
  (∀ (s : State) (rs1 rs2 : Slot) (imm : Word32),
    CompletesOk (exec (.hostnameMatch rs1 rs2) s) s s.slot
      (if hostnameMatches (s.slot rs1) (s.slot rs2) = true then 1 else 0) ∧
    (∀ r, imm.toNat < 16 → s.cert imm.toNat = some r →
      ∃ answer : Bool, CompletesOk (exec (.certHostname rs1 imm) s) s s.slot (if answer = true then 1 else 0) ∧
        (san r = .malformed → answer = false) ∧
        (∀ names, san r = .present names → (answer = true ↔ ∃ n ∈ names, hostnameMatches (s.slot rs1) n = true)) ∧
        (san r = .absent → (answer = true ↔
          ∃ before cn after, r.subject = before ++ [⟨[0x55, 0x04, 0x03], cn⟩] ++ after ∧
            (∀ a ∈ after, a.oid ≠ [0x55, 0x04, 0x03]) ∧ hostnameMatches (s.slot rs1) cn = true)))) ∧
  (∀ host pattern : Bytes,
    (∀ rest, lowerBytes pattern = 0x2a#8 :: 0x2e#8 :: rest →
      (hostnameMatches host pattern = true ↔
        ∃ label, label ≠ [] ∧ 0x2e#8 ∉ label ∧ lowerBytes host = label ++ 0x2e#8 :: rest)) ∧
    ((∀ rest, lowerBytes pattern ≠ 0x2a#8 :: 0x2e#8 :: rest) →
      (hostnameMatches host pattern = true ↔ lowerBytes host = lowerBytes pattern)))

/-- R315, R316: CERT_VALIDITY reports whether the signed time lies in the window, both ends inclusive. -/
def Obligations.CertValidityCommand : Prop :=
  ∀ (s : State) (rs1 : Slot) (imm : Word32) (r : CertRecord), imm.toNat < 16 → s.cert imm.toNat = some r →
    (s.slot rs1).length = 8 →
    (validAt r (nowOf (s.slot rs1)) → CompletesOk (exec (.certValidity rs1 imm) s) s s.slot 1) ∧
    (¬validAt r (nowOf (s.slot rs1)) → CompletesOk (exec (.certValidity rs1 imm) s) s s.slot 0)

/-- R317, R318: CHAIN_VALIDATE ends with OK exactly for 1 to 10 certificates that are all present and valid at
the time, every one between the first and the last marked as a CA; otherwise it reports the first failing reason. -/
def Obligations.ChainValidateCommand : Prop :=
  ∀ (s : State) (rs1 : Slot) (imm : Word32),
    let n := imm.toNat
    let now := nowOf (s.slot rs1)
    ((s.slot rs1).length ≠ 8 → FailsWith (exec (.chainValidate rs1 imm) s) s [] (.badLength 1)) ∧
    ((s.slot rs1).length = 8 →
      (10 < n → FailsWith (exec (.chainValidate rs1 imm) s) s [] (.validationFail .chainTooLong 0)) ∧
      (n = 0 → FailsWith (exec (.chainValidate rs1 imm) s) s [] (.validationFail .emptyChain 0)) ∧
      (1 ≤ n → n ≤ 10 → (∀ i, i < n → positionGood s n now i) →
        CompletesOk (exec (.chainValidate rs1 imm) s) s s.slot 0) ∧
      (1 ≤ n → n ≤ 10 → ∀ i, i < n → ¬positionGood s n now i → (∀ j, j < i → positionGood s n now j) →
        ∃ reason, positionReason s n now i reason ∧
          FailsWith (exec (.chainValidate rs1 imm) s) s [] (.validationFail reason i)))

/-- R319 to R321: TS_ADD adds the fingerprint to the set, once, while there is room, and TS_QUERY reports
membership. The rising order of the list that holds the set is the model's own (log 9), and RETVAL is stated only
for a count that 32 bits hold (log 6). -/
def Obligations.TrustStoreCommands : Prop :=
  ∀ (s : State) (rs1 : Slot),
    let f := shaHash .sha256 (s.slot rs1)
    (f ∈ s.ts → s.ts.length < 2 ^ 32 →
      CompletesOk (exec (.tsAdd rs1) s) s s.slot (BitVec.ofNat 32 s.ts.length)) ∧
    (f ∉ s.ts → s.ts.length = Config.tsCap →
      ∃ size, FailsWith (exec (.tsAdd rs1) s) s [] (.tsFull size) ∧ (Config.tsCap < 2 ^ 32 → size.toNat = Config.tsCap)) ∧
    (f ∉ s.ts → tsWf s.ts = true → s.ts.length < Config.tsCap → s.ts.length + 1 < 2 ^ 32 →
      ∃ ts', EndsOk (exec (.tsAdd rs1) s) s s.slot (BitVec.ofNat 32 (s.ts.length + 1)) s.ct ts' ∧
        (∀ g, g ∈ ts' ↔ g = f ∨ g ∈ s.ts) ∧ tsWf ts' = true ∧ ts'.length = s.ts.length + 1) ∧
    (∀ (imm : Word32) (r : CertRecord), imm.toNat < 16 → s.cert imm.toNat = some r →
      CompletesOk (exec (.tsQuery imm) s) s s.slot (if shaHash .sha256 r.rawBytes ∈ s.ts then 1 else 0))

/-- R303, R320, R321: a root whose bytes were added with TS_ADD and parsed with CERT_PARSE is reported as trusted. -/
def Obligations.AddedRootIsTrusted : Prop :=
  ∀ (s s1 s2 : State) (rs1 : Slot) (imm : Word32), exec (.tsAdd rs1) s = .next s1 → s1.result = .ok →
    exec (.certParse rs1 imm) s1 = .next s2 → s2.result = .ok → CompletesOk (exec (.tsQuery imm) s2) s2 s2.slot 1

/-- R322, R323: OCSP_CHECK decides by the first record with the certificate's serial number, where the operand is the
concatenation of well-formed records, and ends with PARSE_ERROR where it is not (the recursion bound of log 13 never
makes a list malformed). -/
def Obligations.OcspCheckCommand : Prop :=
  ∀ (s : State) (rs1 rs2 : Slot) (imm : Word32) (r : CertRecord), imm.toNat < 16 → s.cert imm.toNat = some r →
    (s.slot rs1).length = 8 →
    ((∀ records, ¬ocspListIs (s.slot rs2) records) → FailsWith (exec (.ocspCheck rs1 rs2 imm) s) s [] .parseError) ∧
    (∀ records, ocspListIs (s.slot rs2) records →
      ((∀ m ∈ records, m.serial ≠ r.serialNumber) → CompletesOk (exec (.ocspCheck rs1 rs2 imm) s) s s.slot 0) ∧
      (∀ before m after, records = before ++ m :: after → (∀ m' ∈ before, m'.serial ≠ r.serialNumber) →
        m.serial = r.serialNumber →
        (m.status = 1 → FailsWith (exec (.ocspCheck rs1 rs2 imm) s) s [] (.validationFail .revoked 0)) ∧
        (m.status ≠ 1 → m.hasNext = true → m.nextUpdate.toInt < nowOf (s.slot rs1) →
          FailsWith (exec (.ocspCheck rs1 rs2 imm) s) s [] (.validationFail .ocspExpired 0)) ∧
        (m.status ≠ 1 → ¬(m.hasNext = true ∧ m.nextUpdate.toInt < nowOf (s.slot rs1)) →
          CompletesOk (exec (.ocspCheck rs1 rs2 imm) s) s s.slot 1)))

/-- R308 to R311: what `san`, `basicConstraints` and `keyUsage` find in a record: the first extension with the OID, its
value parsed afresh, and the first element of that, read as its rule says. -/
def Obligations.ExtensionViews : Prop :=
  ∀ r : CertRecord,
    viewIs r [0x55, 0x1d, 0x11] sanReads (san r) ∧
    viewIs r [0x55, 0x1d, 0x13] basicConstraintsReads (basicConstraints r) ∧
    viewIs r [0x55, 0x1d, 0x0f] keyUsageReads (keyUsage r)
end

