-- ==== Sys2Proof/Laws/Bytes.lean ====
section
/-! SUPPORT. Lengths, byte-order round trips and chunks. -/

namespace Sys2Proof.Machine

open Sys2Proof

@[simp] theorem length_toLe (v n : Nat) : (toLe v n).length = n := by
  induction n generalizing v with
  | zero => rfl
  | succ n ih => simp [toLe, ih]

@[simp] theorem length_toBe (v n : Nat) : (toBe v n).length = n := by simp [toBe]

@[simp] theorem length_zeros (n : Nat) : (zeros n).length = n := by simp [zeros]

@[simp] theorem length_xorBytes (a b : Bytes) : (xorBytes a b).length = min a.length b.length := by simp [xorBytes]

theorem length_slice (b : Bytes) (i j : Nat) : (slice b i j).length = min (j - i) (b.length - i) := by simp [slice]

theorem length_pad16 (b : Bytes) : (pad16 b).length = b.length + (16 - b.length % 16) % 16 := by simp [pad16]

theorem pad16_mod (b : Bytes) : (pad16 b).length % 16 = 0 := by rw [length_pad16]; omega

@[simp] theorem le_nil : le [] = 0 := rfl

@[simp] theorem le_cons (x : Byte) (r : Bytes) : le (x :: r) = x.toNat + 256 * le r := rfl

/-- R13: an `n`-byte number is below 256^n. -/
theorem le_lt (b : Bytes) : le b < 256 ^ b.length := by
  induction b with
  | nil => simp
  | cons x r ih =>
    have := x.isLt
    simp only [le_cons, List.length_cons, pow_succ]
    omega

theorem be_lt (b : Bytes) : be b < 256 ^ b.length := by simpa [be] using le_lt b.reverse

/-- R13: the number of the bytes of a number. -/
theorem le_toLe (v n : Nat) : le (toLe v n) = v % 256 ^ n := by
  induction n generalizing v with
  | zero => simp [toLe, Nat.mod_one]
  | succ n ih =>
    have h : v % 256 ^ (n + 1) = v % 256 + 256 * (v / 256 % 256 ^ n) := by rw [pow_succ', Nat.mod_mul]
    rw [toLe, le_cons, ih, BitVec.toNat_ofNat, h]

theorem le_toLe_of_lt (v n : Nat) (h : v < 256 ^ n) : le (toLe v n) = v := by rw [le_toLe, Nat.mod_eq_of_lt h]

/-- R13: the bytes of the number of some bytes. -/
theorem toLe_le (b : Bytes) : toLe (le b) b.length = b := by
  induction b with
  | nil => rfl
  | cons x r ih =>
    have hx := x.isLt
    have h1 : (x.toNat + 256 * le r) / 256 = le r := by omega
    have h2 : BitVec.ofNat 8 (x.toNat + 256 * le r) = x := by
      apply BitVec.eq_of_toNat_eq
      simp
      omega
    simp [toLe, h1, h2, ih]

theorem be_toBe (v n : Nat) : be (toBe v n) = v % 256 ^ n := by simp [be, toBe, le_toLe]

theorem be_toBe_of_lt (v n : Nat) (h : v < 256 ^ n) : be (toBe v n) = v := by rw [be_toBe, Nat.mod_eq_of_lt h]

theorem toBe_be (b : Bytes) : toBe (be b) b.length = b := by
  have := toLe_le b.reverse
  simp only [List.length_reverse] at this
  simp [be, toBe, this]

theorem be_injective {a b : Bytes} (hl : a.length = b.length) (h : be a = be b) : a = b := by
  rw [← toBe_be a, ← toBe_be b, h, hl]

@[simp] theorem chunks_nil (k : Nat) : chunks k [] = [] := rfl

theorem chunksAux_enough (k : Nat) (hk : 0 < k) (fuel : Nat) (b : Bytes) (h : b.length ≤ fuel) :
    chunksAux k fuel b = chunks k b := by
  induction fuel using Nat.strong_induction_on generalizing b with
  | _ fuel ih =>
    cases b with
    | nil => cases fuel <;> rfl
    | cons x r =>
      obtain ⟨fuel, rfl⟩ : ∃ f, fuel = f + 1 := ⟨fuel - 1, by simp at h; omega⟩
      simp only [List.length_cons] at h
      have hd : ((x :: r).drop k).length ≤ r.length := by simp; omega
      unfold chunks
      simp only [chunksAux, List.length_cons, List.cons.injEq, true_and]
      rw [ih fuel (by omega) _ (by omega)]
      by_cases hf : r.length < fuel + 1
      · exact (ih r.length hf _ hd).symm
      · omega

/-- R70: a sequence in blocks, the first block first. -/
theorem chunks_cons (k : Nat) (hk : 0 < k) (b : Bytes) (h : b ≠ []) :
    chunks k b = b.take k :: chunks k (b.drop k) := by
  cases b with
  | nil => exact absurd rfl h
  | cons x r =>
    conv_lhs => unfold chunks
    simp only [List.length_cons, chunksAux]
    rw [chunksAux_enough k hk]
    simp; omega

/-- An induction over the blocks of a sequence. -/
theorem chunks_induction {k : Nat} (hk : 0 < k) {P : Bytes → Prop} (nil : P [])
    (cons : ∀ b, b ≠ [] → P (b.drop k) → P b) (b : Bytes) : P b := by
  induction hn : b.length using Nat.strong_induction_on generalizing b with
  | _ n ih =>
    by_cases hb : b = []
    · exact hb ▸ nil
    · have : 0 < b.length := List.length_pos_iff.mpr hb
      exact cons b hb (ih _ (by simp; omega) _ rfl)

@[simp] theorem flatten_chunks (k : Nat) (hk : 0 < k) (b : Bytes) : (chunks k b).flatten = b := by
  induction b using chunks_induction hk with
  | nil => rfl
  | cons b hb ih => rw [chunks_cons k hk b hb, List.flatten_cons, ih, List.take_append_drop]

theorem length_of_mem_chunks (k : Nat) (hk : 0 < k) (b c : Bytes) (h : c ∈ chunks k b) : 0 < c.length ∧ c.length ≤ k := by
  induction b using chunks_induction hk with
  | nil => simp at h
  | cons b hb ih =>
    rw [chunks_cons k hk b hb, List.mem_cons] at h
    rcases h with rfl | h
    · have : 0 < b.length := List.length_pos_iff.mpr hb
      simp; omega
    · exact ih h

theorem length_chunks (k : Nat) (hk : 0 < k) (b : Bytes) : (chunks k b).length = (b.length + k - 1) / k := by
  induction b using chunks_induction hk with
  | nil => simp [Nat.div_eq_of_lt (show k - 1 < k by omega)]
  | cons b hb ih =>
    have : 0 < b.length := List.length_pos_iff.mpr hb
    rw [chunks_cons k hk b hb, List.length_cons, ih, List.length_drop]
    by_cases hle : b.length ≤ k
    · have h1 : b.length - k = 0 := by omega
      rw [h1, Nat.div_eq_of_lt (by omega), Nat.div_eq_of_lt_le] <;> omega
    · have : b.length + k - 1 = (b.length - k + k - 1) + k := by omega
      rw [this, Nat.add_div_right _ hk]

/-- Block `i` of a sequence. -/
theorem getElem?_chunks (k : Nat) (hk : 0 < k) (b : Bytes) (i : Nat) :
    (chunks k b)[i]? = if i * k < b.length then some (slice b (i * k) (i * k + k)) else none := by
  induction b using chunks_induction hk generalizing i with
  | nil => simp
  | cons b hb ih =>
    have hpos : 0 < b.length := List.length_pos_iff.mpr hb
    rw [chunks_cons k hk b hb]
    cases i with
    | zero => simp [slice, hpos]
    | succ i =>
      rw [List.getElem?_cons_succ, ih]
      have h1 : (i + 1) * k = i * k + k := by ring
      have h2 : i * k < (b.drop k).length ↔ (i + 1) * k < b.length := by simp [h1]; omega
      have h3 : slice (b.drop k) (i * k) (i * k + k) = slice b ((i + 1) * k) ((i + 1) * k + k) := by
        simp [slice, h1, Nat.add_comm k]
      by_cases h : (i + 1) * k < b.length
      · rw [if_pos (h2.mpr h), if_pos h, h3]
      · rw [if_neg (fun c => h (h2.mp c)), if_neg h]

end Sys2Proof.Machine
end

