-- ==== Sys2Proof/Laws/Cert.lean ====
section
/-! SUPPORT. What the record readers of the certificate unit read: an extension (46_certificate.md R308) and an OCSP
record (R322). -/

namespace Sys2Proof.Machine

open Sys2Proof

/-- R308: no extension with the OID. -/
theorem findExt_of_absent (r : CertRecord) (oid : Bytes) (h : ∀ x ∈ r.extensions, x.oid ≠ oid) : findExt r oid = none := by
  simp [findExt]
  exact h

/-- R308: the first extension with the OID decides. -/
theorem findExt_of_first (r : CertRecord) (oid v : Bytes) (h : firstExtension r oid v) : findExt r oid = some v := by
  obtain ⟨before, x, after, he, hb, hx, rfl⟩ := h
  have h1 : before.find? (fun e => e.oid == oid) = none := List.find?_eq_none.mpr (by simpa using hb)
  simp [findExt, he, List.find?_append, h1, hx]

/-- R308: what an accessor finds, for a view that reads exactly what `reads` says. -/
theorem viewIs_viewExt {α : Type} (r : CertRecord) (oid : Bytes) (reads : Element → α → Prop) (view : Element → Option α)
    (h : ∀ e a, view e = some a ↔ reads e a) : viewIs r oid reads (viewExt r oid view) := by
  refine ⟨fun ha => by simp only [viewExt, findExt_of_absent r oid ha], fun v hv => ?_⟩
  simp only [viewExt, findExt_of_first r oid v hv]
  refine ⟨fun hp => by simp only [hp], fun hp => by simp only [hp], fun e more hp => ⟨fun a ha => ?_, fun ha => ?_⟩⟩
  · simp only [hp, (h e a).mpr ha]
  · have : view e = none := Option.eq_none_iff_forall_ne_some.mpr fun a hx => ha a ((h e a).mp hx)
    simp only [hp, this]

theorem length_ocspOctets (m : OcspRecord) : (ocspOctets m).length = m.serial.length + 11 := by
  simp only [ocspOctets, List.length_append, length_toBe]
  omega

theorem toBe_one (v : Nat) : toBe v 1 = [BitVec.ofNat 8 v] := rfl

/-- A list of at least `n + 10` bytes in the parts of a record. -/
theorem ocspParts (r : Bytes) (n : Nat) (h : n + 10 ≤ r.length) :
    ∃ serial status hasNext time rest, serial.length = n ∧ time.length = 8 ∧
      r = serial ++ status :: hasNext :: (time ++ rest) := by
  refine ⟨r.take n, r[n], r[n + 1], (r.drop (n + 2)).take 8, (r.drop (n + 2)).drop 8, by simp; omega, by simp; omega, ?_⟩
  rw [List.take_append_drop, ← List.drop_eq_getElem_cons, ← List.drop_eq_getElem_cons, List.take_append_drop]

/-- What `ocspRecord` reads of a record's parts. -/
theorem ocspRecord_parts (slen status hasNext : Byte) (serial time rest : Bytes) (hs : serial.length = slen.toNat)
    (ht : time.length = 8) :
    ocspRecord (slen :: (serial ++ status :: hasNext :: (time ++ rest))) =
      if 2 < status.toNat ∨ 1 < hasNext.toNat then none
      else some (⟨serial, status.toNat, hasNext.toNat == 1, timeOperand time⟩, rest) := by
  have h1 : ¬8 + rest.length + 1 + 1 < 10 := by omega
  have h2 (k : Nat) : serial.drop (serial.length + k) = [] := List.drop_eq_nil_of_le (by omega)
  simp only [ocspRecord, ← hs, slice]
  simp [List.drop_append, ht, h1, h2]

/-- R322: the record at the front of a list is read exactly when the bytes are those of a record it can hold. -/
theorem ocspRecord_eq_some_iff (b rest : Bytes) (m : OcspRecord) :
    ocspRecord b = some (m, rest) ↔ ocspWellFormed m ∧ b = ocspOctets m ++ rest := by
  constructor
  · intro h
    cases b with
    | nil => cases h
    | cons slen r =>
      by_cases hl : r.length < slen.toNat + 10
      · simp [ocspRecord, hl] at h
      obtain ⟨serial, status, hasNext, time, tail, hs, ht, rfl⟩ := ocspParts r slen.toNat (by omega)
      rw [ocspRecord_parts _ _ _ _ _ _ hs ht] at h
      split at h
      · cases h
      rename_i hv
      simp only [Option.some.injEq, Prod.mk.injEq] at h
      obtain ⟨rfl, rfl⟩ := h
      push Not at hv
      have hb := slen.isLt
      refine ⟨⟨by simp only; omega, hv.1⟩, ?_⟩
      have e1 : BitVec.ofNat 8 serial.length = slen := by rw [hs]; simp
      have e2 : BitVec.ofNat 8 (hasNext.toNat == 1).toNat = hasNext := by
        apply BitVec.eq_of_toNat_eq
        rcases Nat.le_one_iff_eq_zero_or_eq_one.mp hv.2 with h | h <;> simp [h]
      have e3 : toBe (timeOperand time).toNat 8 = time := by
        have h1 := toBe_be time
        have h2 := be_lt time
        rw [ht] at h1 h2
        rw [timeOperand, BitVec.toNat_ofNat, Nat.mod_eq_of_lt (by omega), h1]
      simp [ocspOctets, toBe_one, e1, e2, e3]
  · rintro ⟨⟨h1, h2⟩, rfl⟩
    have h := ocspRecord_parts (BitVec.ofNat 8 m.serial.length) (BitVec.ofNat 8 m.status) (BitVec.ofNat 8 m.hasNext.toNat)
      m.serial (toBe m.nextUpdate.toNat 8) rest (by simp; omega) (by simp)
    have ht : timeOperand (toBe m.nextUpdate.toNat 8) = m.nextUpdate := by
      have := m.nextUpdate.isLt
      rw [timeOperand, be_toBe_of_lt _ _ (by omega)]
      simp
    have hst : (BitVec.ofNat 8 m.status).toNat = m.status := by simp; omega
    have hhn : (BitVec.ofNat 8 m.hasNext.toNat).toNat = m.hasNext.toNat := by cases m.hasNext <;> rfl
    have hb : m.hasNext.toNat ≤ 1 := Bool.toNat_le m.hasNext
    rw [hst, hhn, if_neg (by omega), ht] at h
    have hb1 : (m.hasNext.toNat == 1) = m.hasNext := by cases m.hasNext <;> rfl
    rw [hb1] at h
    simpa [ocspOctets, toBe_one] using h

end Sys2Proof.Machine
end

