-- ==== Sys2Proof/Laws/Decode.lean ====
section
/-! SUPPORT. The fields of a word and the word of some fields are inverse (30_encoding.md R91); the command
table read by rows and by columns (R95). -/

namespace Sys2Proof

theorem toNat_append_eq {m n : Nat} (x : BitVec m) (y : BitVec n) : (x ++ y).toNat = x.toNat * 2 ^ n + y.toNat := by
  rw [BitVec.toNat_append, ← Nat.shiftLeft_add_eq_or_of_lt y.isLt, Nat.shiftLeft_eq]

theorem Fields.ofWord_toWord (f : Fields) : Fields.ofWord f.toWord = f := by
  cases f with
  | mk imm reserved rs5 rs4 rs3 rs2 rs1 rd2 rd var opcode =>
  have h1 := imm.isLt
  have h2 := reserved.isLt
  have h3 := rs5.isLt
  have h4 := rs4.isLt
  have h5 := rs3.isLt
  have h6 := rs2.isLt
  have h7 := rs1.isLt
  have h8 := rd2.isLt
  have h9 := rd.isLt
  have h10 := var.isLt
  have h11 := opcode.isLt
  simp only [Fields.ofWord, Fields.toWord, Fields.mk.injEq]
  refine ⟨?_, ?_, ?_, ?_, ?_, ?_, ?_, ?_, ?_, ?_, ?_⟩ <;> apply BitVec.eq_of_toNat_eq <;>
    simp only [BitVec.extractLsb'_toNat, toNat_append_eq, Nat.shiftRight_eq_div_pow] <;> omega

theorem Fields.toWord_ofWord (w : Word64) : (Fields.ofWord w).toWord = w := by
  have h (a b c d : Nat) (e : a = b + d) : w.extractLsb' a c ++ w.extractLsb' b d = w.extractLsb' b (c + d) := by
    subst e
    exact BitVec.extractLsb'_append_extractLsb'_eq_extractLsb' (by omega)
  simp only [Fields.ofWord, Fields.toWord]
  rw [h 32, h 31, h 28, h 25, h 22, h 19, h 16, h 13, h 10, h 8] <;> try rfl
  ext i hi
  simp

theorem rows_opcodes : rows.map (fun r => r.opcode.toNat) = assignedOpcodes := rfl

theorem rows_uses : rows.map (fun r => r.uses) = assignedOpcodes.map usesOf := by decide

theorem slotOf_slotBits (i : Slot) : slotOf (slotBits i) = i := rfl

theorem slotBits_slotOf (b : BitVec 3) : slotBits (slotOf b) = b := rfl

end Sys2Proof
end

