-- ==== Sys2Proof/Laws/Der.lean ====
section
/-! SUPPORT. What the DER reader's parts read (45_der.md R272, R273, R276): one lemma per function, both ways. -/

namespace Sys2Proof.Machine

open Sys2Proof

/-- R272: the value of groups of seven bits, after the value `tag` of those before them. -/
theorem tagFold_ge (bs : Bytes) (tag : Nat) : tag ≤ bs.foldl (fun t g => 128 * t + g.toNat % 128) tag := by
  induction bs generalizing tag with
  | nil => exact le_refl _
  | cons c bs ih => exact (show tag ≤ 128 * tag + c.toNat % 128 by omega).trans (ih _)

/-- R272: the multi-byte tag number, read from its groups. -/
theorem parseLongTag_eq_some_iff (bs : Bytes) (tag n t m : Nat) (rest : Bytes) :
    parseLongTag tag n bs = some (t, m, rest) ↔
      ∃ groups last, bs = groups ++ last :: rest ∧ (∀ g ∈ groups, 128 ≤ g.toNat) ∧ last.toNat < 128 ∧
        t = (groups ++ [last]).foldl (fun t g => 128 * t + g.toNat % 128) tag ∧ t < 2 ^ 32 ∧ m = n + groups.length + 1 := by
  induction bs generalizing tag n with
  | nil => simp [parseLongTag]
  | cons c bs ih =>
    unfold parseLongTag
    split
    · rename_i hbig
      simp only [reduceCtorEq, false_iff]
      rintro ⟨groups, last, h1, -, -, rfl, h2, -⟩
      cases groups with
      | nil => simp at h2; omega
      | cons g groups =>
        have := tagFold_ge (groups ++ [last]) (128 * tag + g.toNat % 128)
        simp only [List.cons_append, List.foldl_cons] at h2
        omega
    · rename_i hsmall
      simp only
      split
      · rename_i hc
        simp only [Option.some.injEq, Prod.mk.injEq]
        constructor
        · rintro ⟨rfl, rfl, rfl⟩
          exact ⟨[], c, rfl, by simp, hc, by simp [Nat.mul_comm], by omega, rfl⟩
        · rintro ⟨groups, last, h1, h2, h3, rfl, h4, rfl⟩
          cases groups with
          | nil => cases h1; exact ⟨by simp [Nat.mul_comm], rfl, rfl⟩
          | cons g groups => cases h1; have := h2 c (by simp); omega
      · rename_i hc
        rw [ih]
        constructor
        · rintro ⟨groups, last, rfl, h2, h3, h4, h5, rfl⟩
          refine ⟨c :: groups, last, rfl, ?_, h3, ?_, h5, by simp; omega⟩
          · intro g hg
            rcases List.mem_cons.mp hg with rfl | hg
            · omega
            · exact h2 g hg
          · rw [h4, List.cons_append, List.foldl_cons, Nat.mul_comm tag]
        · rintro ⟨groups, last, h1, h2, h3, h4, h5, rfl⟩
          cases groups with
          | nil => cases h1; omega
          | cons g groups =>
            cases h1
            refine ⟨groups, last, rfl, fun g hg => h2 g (by simp [hg]), h3, ?_, h5, by simp; omega⟩
            rw [h4, List.cons_append, List.foldl_cons, Nat.mul_comm tag]

/-- R273: the length, read from its octets. -/
theorem parseLength_eq_some_iff (bs : Bytes) (len k : Nat) (rest : Bytes) :
    parseLength bs = some (len, k, rest) ↔ ∃ octets, bs = octets ++ rest ∧ lengthOctets len octets ∧ k = octets.length := by
  cases bs with
  | nil =>
    simp only [parseLength, reduceCtorEq, false_iff]
    rintro ⟨octets, h, ⟨first, more, rfl, -⟩, -⟩
    cases h
  | cons l0 bs =>
    have hl := l0.isLt
    simp only [parseLength]
    constructor
    · intro h
      split at h
      · cases h
        exact ⟨[l0], rfl, ⟨l0, [], rfl, .inl ⟨rfl, rfl, by assumption⟩⟩, rfl⟩
      split at h
      · cases h
      split at h
      · cases h
      cases h
      refine ⟨l0 :: bs.take (l0.toNat % 128), by simp, ⟨l0, _, rfl, .inr ⟨?_, ?_, ?_, rfl⟩⟩, ?_⟩ <;> simp <;> omega
    · rintro ⟨octets, h, ⟨first, more, rfl, ⟨rfl, rfl, h1⟩ | ⟨h1, h2, h3, rfl⟩⟩, rfl⟩
      · cases h; rw [if_pos h1]; rfl
      · cases h
        have hm : l0.toNat % 128 = more.length := by omega
        rw [if_neg (by omega), hm, if_neg (by omega), if_neg (by simp)]
        simp [Nat.add_comm]

/-- R271 to R273: an element's header is read exactly when the bytes are its identifier, its length, its content and
what follows it. -/
theorem parseHeader_eq_some_iff (off : Nat) (bs rest : Bytes) (n : DerNode) :
    parseHeader off bs = some (n, rest) ↔
      ∃ identifier length, bs = identifier ++ length ++ n.value ++ rest ∧ n.hdr = off ∧
        n.voff = off + identifier.length + length.length ∧ identifierOctets n identifier ∧
        lengthOctets n.value.length length := by
  cases bs with
  | nil =>
    simp only [parseHeader, reduceCtorEq, false_iff]
    rintro ⟨_, _, h, -, -, ⟨first, more, rfl, -⟩, -⟩
    cases h
  | cons b0 r0 =>
    have hclass : b0.toNat / 32 = 2 * (b0.extractLsb' 6 2).toNat + (b0.getLsbD 5).toNat := by
      revert b0; decide
    have hclass' : ∀ (c : BitVec 2) (k : Bool), b0.toNat / 32 = 2 * c.toNat + k.toNat →
        b0.extractLsb' 6 2 = c ∧ b0.getLsbD 5 = k := by
      intro c k h
      have := c.isLt
      have h1 := (b0.extractLsb' 6 2).isLt
      have h2 := Bool.toNat_le (b0.getLsbD 5)
      have h3 := Bool.toNat_le k
      have h4 : (b0.getLsbD 5).toNat = k.toNat := by omega
      refine ⟨BitVec.eq_of_toNat_eq (by omega), ?_⟩
      exact (show ∀ x y : Bool, x.toNat = y.toNat → x = y by decide) _ _ h4
    simp only [parseHeader]
    constructor
    · intro h
      split at h
      · cases h
      rename_i tag tagBytes r1 htag
      split at h
      · cases h
      rename_i len lenBytes r2 hlen
      split at h
      · cases h
      rename_i hfit
      cases h
      obtain ⟨octets, rfl, hl, rfl⟩ := (parseLength_eq_some_iff _ _ _ _).mp hlen
      have hval : (r2.take len).length = len := by simp; omega
      split at htag
      · rename_i h31
        obtain ⟨groups, last, rfl, h1, h2, h3, h4, rfl⟩ := (parseLongTag_eq_some_iff _ _ _ _ _ _).mp htag
        refine ⟨b0 :: (groups ++ [last]), octets, by simp, rfl, by simp; omega,
          ⟨b0, _, rfl, hclass, h4, .inr ⟨h31, groups, last, rfl, h1, h2, h3⟩⟩, by simpa [hval] using hl⟩
      · rename_i h31
        cases htag
        refine ⟨[b0], octets, by simp, rfl, by simp, ⟨b0, [], rfl, hclass, ?_, .inl ⟨rfl, h31, rfl⟩⟩,
          by simpa [hval] using hl⟩
        simp only; omega
    · rintro ⟨identifier, length, h, rfl, hv, ⟨first, more, rfl, hc, ht, hk⟩, hl⟩
      obtain ⟨h1, h2⟩ : b0 = first ∧ r0 = more ++ length ++ n.value ++ rest := by simpa using h
      subst h1
      obtain ⟨hc1, hc2⟩ := hclass' _ _ hc
      have htag : (if b0.toNat % 32 = 31 then parseLongTag 0 0 r0 else some (b0.toNat % 32, 0, r0)) =
          some (n.tag, more.length, length ++ n.value ++ rest) := by
        rcases hk with ⟨rfl, h31, he⟩ | ⟨h31, groups, last, rfl, h3, h4, h5⟩
        · rw [if_neg h31, he, h2]; rfl
        · rw [if_pos h31, parseLongTag_eq_some_iff]
          exact ⟨groups, last, by simp [h2], h3, h4, h5, ht, by simp⟩
      rw [htag]
      simp only
      have hlen : parseLength (length ++ n.value ++ rest) = some (n.value.length, length.length, n.value ++ rest) :=
        (parseLength_eq_some_iff _ _ _ _).mpr ⟨length, by simp, hl, rfl⟩
      rw [hlen]
      simp only
      rw [if_neg (by simp)]
      cases n
      simp_all
      omega

/-- R276: the depth limit, whichever value DER_MAX_DEPTH has. -/
theorem tooDeep_eq (depth : Nat) : tooDeep depth = decide (Config.derMaxDepth ≤ depth) := by
  have : 8 ≤ Config.derMaxDepth := by unfold Config.derMaxDepth; omega
  by_cases h : Config.derMaxDepth ≤ depth
  · simp [tooDeep, h]; omega
  · simp [tooDeep, h]

/-- R276: the element limit, whichever value DER_MAX_NODES has. -/
theorem tooMany_eq (nodes : Nat) : tooMany nodes = decide (Config.derMaxNodes < nodes) := by
  have : 64 ≤ Config.derMaxNodes := by unfold Config.derMaxNodes; omega
  by_cases h : Config.derMaxNodes < nodes
  · simp [tooMany, h]; omega
  · simp [tooMany, h]

end Sys2Proof.Machine
end

