-- ==== Sys2Proof/Laws/Lengths.lean ====
section
/-! SUPPORT. The lengths of what the units compute. -/

namespace Sys2Proof.Machine

open Sys2Proof

theorem blockLen_pos (v : Variant) : 0 < blockLen v := by cases v <;> decide

theorem hashLen_le_stateLen (v : Variant) : hashLen v ≤ stateLen v := by cases v <;> decide

theorem hashLen_pos (v : Variant) : 0 < hashLen v := by cases v <;> decide

/-- R122: the padded length. -/
theorem length_shaPad (v : Variant) (m : Bytes) : (shaPad v m).length = paddedLen v m.length := by
  cases v <;> simp only [shaPad, paddedLen, padZeros, blockLen, lengthField, List.length_append, List.length_cons,
    List.length_nil, length_zeros, length_toBe] <;> omega

theorem length_storeWords32 (H : Eight 32) : (storeWords H).length = 32 := by simp [storeWords]

theorem length_storeWords64 (H : Eight 64) : (storeWords H).length = 64 := by simp [storeWords]

@[simp] theorem length_ivBytes (v : Variant) : (ivBytes v).length = stateLen v := by
  cases v <;> simp [ivBytes, stateLen, length_storeWords32, length_storeWords64]

@[simp] theorem length_compressBytes (v : Variant) (st blk : Bytes) : (compressBytes v st blk).length = stateLen v := by
  cases v <;> simp [compressBytes, stateLen, length_storeWords32, length_storeWords64]

@[simp] theorem length_shaHash (v : Variant) (m : Bytes) : (shaHash v m).length = hashLen v := by
  cases v <;> simp [shaHash, hashLen, length_storeWords32, length_storeWords64]

@[simp] theorem length_hmac (v : Variant) (k m : Bytes) : (hmac v k m).length = hashLen v := by simp [hmac]

theorem length_expandBlocks (v : Variant) (prk info : Bytes) (n i : Nat) (t : Bytes) :
    (expandBlocks v prk info n i t).length = n * hashLen v := by
  induction n generalizing i t with
  | zero => simp [expandBlocks]
  | succ n ih => simp [expandBlocks, ih]; ring

@[simp] theorem length_hkdfExpand (v : Variant) (prk info : Bytes) (n : Nat) : (hkdfExpand v prk info n).length = n := by
  have h := hashLen_pos v
  have : n ≤ (n + hashLen v - 1) / hashLen v * hashLen v := by
    have h1 := Nat.div_add_mod (n + hashLen v - 1) (hashLen v)
    have h2 := Nat.mod_lt (n + hashLen v - 1) h
    rw [Nat.mul_comm]
    omega
  simp [hkdfExpand, length_expandBlocks, this]

@[simp] theorem length_ofKeyWord (t : KeyWord) : (ofKeyWord t).length = 4 := rfl

theorem length_foldl_keyStep (is : List Nat) (ws : List KeyWord) : (is.foldl keyStep ws).length = ws.length + is.length := by
  induction is generalizing ws with
  | nil => rfl
  | cons i is ih => simp [ih, keyStep]; omega

@[simp] theorem length_aesKeyExpand (key : Bytes) : (aesKeyExpand key).length = 176 := by
  simp [aesKeyExpand, List.length_flatMap, length_foldl_keyStep]

theorem length_mixColumns (st : Bytes) : (mixColumns st).length = 16 := by simp [mixColumns, mixColumn]

theorem length_shiftRows (st : Bytes) : (shiftRows st).length = 16 := by simp [shiftRows]

theorem length_addRoundKey (rk st : Bytes) (j : Nat) (h : 16 * j + 16 ≤ rk.length) (h' : st.length = 16) :
    (addRoundKey rk st j).length = 16 := by
  simp only [addRoundKey, length_xorBytes, length_slice]
  omega

theorem length_aesEncrypt (rk blk : Bytes) (h : rk.length = 176) : (aesEncrypt rk blk).length = 16 := by
  unfold aesEncrypt
  exact length_addRoundKey _ _ _ (by omega) (length_shiftRows _)

@[simp] theorem length_aes (key blk : Bytes) : (aes key blk).length = 16 := length_aesEncrypt _ _ (by simp)

@[simp] theorem length_gf128Mul (x y : Bytes) : (gf128Mul x y).length = 16 := by simp [gf128Mul]

theorem length_ghashData (aad c : Bytes) : (ghashData aad c).length % 16 = 0 := by
  have h1 := pad16_mod aad
  have h2 := pad16_mod c
  simp only [ghashData, List.length_append, length_toBe]
  omega

@[simp] theorem length_ghash (h aad c : Bytes) : (ghash h aad c).length = 16 := by
  unfold ghash
  generalize chunks 16 (ghashData aad c) = ds
  have : ∀ y : Bytes, y.length = 16 → (ds.foldl (fun y d => gf128Mul (xorBytes y d) h) y).length = 16 := by
    induction ds with
    | nil => exact fun y hy => hy
    | cons d ds ih => exact fun y _ => ih _ (length_gf128Mul _ _)
  exact this _ (by simp)

theorem length_ctrChunks (rk : Bytes) (hrk : rk.length = 176) (cb : Bytes) (ds : List Bytes)
    (h : ∀ d ∈ ds, d.length ≤ 16) : (ctrChunks rk cb ds).length = ds.flatten.length := by
  induction ds generalizing cb with
  | nil => rfl
  | cons d ds ih =>
    have h1 := h d (by simp)
    simp only [ctrChunks, List.length_append, length_xorBytes, length_aesEncrypt rk cb hrk, List.flatten_cons]
    rw [ih _ fun e he => h e (by simp [he])]
    omega

@[simp] theorem length_aesCtr (key icb data : Bytes) : (aesCtr key icb data).length = data.length := by
  rw [aesCtr, length_ctrChunks _ (by simp) _ _ fun d hd => (length_of_mem_chunks 16 (by decide) _ _ hd).2,
    flatten_chunks 16 (by decide)]

@[simp] theorem length_gcmTag (key iv aad c : Bytes) : (gcmTag key iv aad c).length = 16 := by simp [gcmTag]

@[simp] theorem length_gcmCtr (key iv data : Bytes) : (gcmCtr key iv data).length = data.length := by simp [gcmCtr]

theorem length_leWords (b : Bytes) : (leWords b).length = (b.length + 3) / 4 := by
  simp [leWords, length_chunks]

theorem length_quarterRound (x : List Word32) (q : Nat × Nat × Nat × Nat) : (quarterRound x q).length = x.length := by
  simp [quarterRound]

theorem length_doubleRound (x : List Word32) : (doubleRound x).length = x.length := by
  simp [doubleRound, doubleRoundIndices, length_quarterRound]

theorem length_doubleRounds (n : Nat) (x : List Word32) : (doubleRounds n x).length = x.length := by
  induction n generalizing x with
  | zero => rfl
  | succ n ih => rw [doubleRounds, ih, length_doubleRound]

theorem length_chachaInit (key nonce : Bytes) (counter : Word32) (hk : key.length = 32) (hn : nonce.length = 12) :
    (chachaInit key nonce counter).length = 16 := by
  simp [chachaInit, chachaConstants, length_leWords, hk, hn]

theorem length_chachaBlock (key nonce : Bytes) (counter : Word32) (hk : key.length = 32) (hn : nonce.length = 12) :
    (chachaBlock key nonce counter).length = 64 := by
  have h (l : List Word32) : (l.flatMap fun w => toLe w.toNat 4).length = 4 * l.length := by
    induction l with
    | nil => rfl
    | cons w l ih => simp [ih]; omega
  simp [chachaBlock, h, length_doubleRounds, length_chachaInit, hk, hn]

theorem length_chachaChunks (key nonce : Bytes) (hk : key.length = 32) (hn : nonce.length = 12) (counter : Word32)
    (ds : List Bytes) (h : ∀ d ∈ ds, d.length ≤ 64) : (chachaChunks key nonce counter ds).length = ds.flatten.length := by
  induction ds generalizing counter with
  | nil => rfl
  | cons d ds ih =>
    have h1 := h d (by simp)
    simp only [chachaChunks, List.length_append, length_xorBytes, length_chachaBlock key nonce _ hk hn, List.flatten_cons]
    rw [ih _ fun e he => h e (by simp [he])]
    omega

theorem length_chachaXor (key nonce : Bytes) (counter : Word32) (data : Bytes) (hk : key.length = 32)
    (hn : nonce.length = 12) : (chachaXor key nonce counter data).length = data.length := by
  rw [chachaXor, length_chachaChunks _ _ hk hn _ _ fun d hd => (length_of_mem_chunks 64 (by decide) _ _ hd).2,
    flatten_chunks 64 (by decide)]

@[simp] theorem length_poly1305 (otk msg : Bytes) : (poly1305 otk msg).length = 16 := by simp [poly1305]

@[simp] theorem length_ccpTag (key iv aad c : Bytes) : (ccpTag key iv aad c).length = 16 := by simp [ccpTag]

@[simp] theorem length_fieldEncode (a : Nat) : (fieldEncode a).length = 32 := by simp [fieldEncode]

@[simp] theorem length_x25519 (sc pt : Bytes) : (x25519 sc pt).length = 32 := by simp [x25519]

@[simp] theorem length_nodeRecord (dn : Nat × DerNode) : (nodeRecord dn).length = 16 := by simp [nodeRecord]

end Sys2Proof.Machine
end

