-- ==== Sys2Proof/Laws/State.lean ====
section
/-! SUPPORT. What each update of the state does to each of its fields, one lemma per field per update. -/

namespace Sys2Proof.Machine

open Sys2Proof

@[simp] theorem State.setSlot_slots (s : State) (i : Slot) (b : Bytes) : (s.setSlot i b).slots = s.slots.set i b := rfl
@[simp] theorem State.setSlot_cmdHi (s : State) (i : Slot) (b : Bytes) : (s.setSlot i b).cmdHi = s.cmdHi := rfl
@[simp] theorem State.setSlot_cmdReg (s : State) (i : Slot) (b : Bytes) : (s.setSlot i b).cmdReg = s.cmdReg := rfl
@[simp] theorem State.setSlot_busy (s : State) (i : Slot) (b : Bytes) : (s.setSlot i b).busy = s.busy := rfl
@[simp] theorem State.setSlot_done (s : State) (i : Slot) (b : Bytes) : (s.setSlot i b).done = s.done := rfl
@[simp] theorem State.setSlot_proto (s : State) (i : Slot) (b : Bytes) : (s.setSlot i b).proto = s.proto := rfl
@[simp] theorem State.setSlot_result (s : State) (i : Slot) (b : Bytes) : (s.setSlot i b).result = s.result := rfl
@[simp] theorem State.setSlot_retval (s : State) (i : Slot) (b : Bytes) : (s.setSlot i b).retval = s.retval := rfl
@[simp] theorem State.setSlot_errinfo (s : State) (i : Slot) (b : Bytes) : (s.setSlot i b).errinfo = s.errinfo := rfl
@[simp] theorem State.setSlot_ct (s : State) (i : Slot) (b : Bytes) : (s.setSlot i b).ct = s.ct := rfl
@[simp] theorem State.setSlot_ts (s : State) (i : Slot) (b : Bytes) : (s.setSlot i b).ts = s.ts := rfl
@[simp] theorem State.setSlot_units (s : State) (i : Slot) (b : Bytes) : (s.setSlot i b).units = s.units := rfl
@[simp] theorem State.setSlot_schedule (s : State) (i : Slot) (b : Bytes) : (s.setSlot i b).schedule = s.schedule := rfl
@[simp] theorem State.setSlot_reply (s : State) (i : Slot) (b : Bytes) : (s.setSlot i b).reply = s.reply := rfl

@[simp] theorem State.setCert_slots (s : State) (idx : Nat) (r : Option CertRecord) : (s.setCert idx r).slots = s.slots := rfl
@[simp] theorem State.setCert_cmdHi (s : State) (idx : Nat) (r : Option CertRecord) : (s.setCert idx r).cmdHi = s.cmdHi := rfl
@[simp] theorem State.setCert_cmdReg (s : State) (idx : Nat) (r : Option CertRecord) : (s.setCert idx r).cmdReg = s.cmdReg := rfl
@[simp] theorem State.setCert_busy (s : State) (idx : Nat) (r : Option CertRecord) : (s.setCert idx r).busy = s.busy := rfl
@[simp] theorem State.setCert_done (s : State) (idx : Nat) (r : Option CertRecord) : (s.setCert idx r).done = s.done := rfl
@[simp] theorem State.setCert_proto (s : State) (idx : Nat) (r : Option CertRecord) : (s.setCert idx r).proto = s.proto := rfl
@[simp] theorem State.setCert_result (s : State) (idx : Nat) (r : Option CertRecord) : (s.setCert idx r).result = s.result := rfl
@[simp] theorem State.setCert_retval (s : State) (idx : Nat) (r : Option CertRecord) : (s.setCert idx r).retval = s.retval := rfl
@[simp] theorem State.setCert_errinfo (s : State) (idx : Nat) (r : Option CertRecord) : (s.setCert idx r).errinfo = s.errinfo := rfl
@[simp] theorem State.setCert_ct (s : State) (idx : Nat) (r : Option CertRecord) : (s.setCert idx r).ct = s.ct.setIfInBounds idx r := rfl
@[simp] theorem State.setCert_ts (s : State) (idx : Nat) (r : Option CertRecord) : (s.setCert idx r).ts = s.ts := rfl
@[simp] theorem State.setCert_units (s : State) (idx : Nat) (r : Option CertRecord) : (s.setCert idx r).units = s.units := rfl
@[simp] theorem State.setCert_schedule (s : State) (idx : Nat) (r : Option CertRecord) : (s.setCert idx r).schedule = s.schedule := rfl
@[simp] theorem State.setCert_reply (s : State) (idx : Nat) (r : Option CertRecord) : (s.setCert idx r).reply = s.reply := rfl

@[simp] theorem State.finish_slots (s : State) (c : ResultCode) (v e : Word32) : (s.finish c v e).slots = s.slots := rfl
@[simp] theorem State.finish_cmdHi (s : State) (c : ResultCode) (v e : Word32) : (s.finish c v e).cmdHi = s.cmdHi := rfl
@[simp] theorem State.finish_cmdReg (s : State) (c : ResultCode) (v e : Word32) : (s.finish c v e).cmdReg = s.cmdReg := rfl
@[simp] theorem State.finish_busy (s : State) (c : ResultCode) (v e : Word32) : (s.finish c v e).busy = false := rfl
@[simp] theorem State.finish_done (s : State) (c : ResultCode) (v e : Word32) : (s.finish c v e).done = true := rfl
@[simp] theorem State.finish_proto (s : State) (c : ResultCode) (v e : Word32) : (s.finish c v e).proto = s.proto := rfl
@[simp] theorem State.finish_result (s : State) (c : ResultCode) (v e : Word32) : (s.finish c v e).result = c := rfl
@[simp] theorem State.finish_retval (s : State) (c : ResultCode) (v e : Word32) : (s.finish c v e).retval = v := rfl
@[simp] theorem State.finish_errinfo (s : State) (c : ResultCode) (v e : Word32) : (s.finish c v e).errinfo = e := rfl
@[simp] theorem State.finish_ct (s : State) (c : ResultCode) (v e : Word32) : (s.finish c v e).ct = s.ct := rfl
@[simp] theorem State.finish_ts (s : State) (c : ResultCode) (v e : Word32) : (s.finish c v e).ts = s.ts := rfl
@[simp] theorem State.finish_units (s : State) (c : ResultCode) (v e : Word32) : (s.finish c v e).units = {} := rfl
@[simp] theorem State.finish_schedule (s : State) (c : ResultCode) (v e : Word32) : (s.finish c v e).schedule = s.schedule := rfl
@[simp] theorem State.finish_reply (s : State) (c : ResultCode) (v e : Word32) : (s.finish c v e).reply = s.reply := rfl

@[simp] theorem State.issue_slots (s : State) (v : Word32) : (s.issue v).slots = s.slots := rfl
@[simp] theorem State.issue_cmdHi (s : State) (v : Word32) : (s.issue v).cmdHi = s.cmdHi := rfl
@[simp] theorem State.issue_cmdReg (s : State) (v : Word32) : (s.issue v).cmdReg = s.cmdHi ++ v := rfl
@[simp] theorem State.issue_busy (s : State) (v : Word32) : (s.issue v).busy = true := rfl
@[simp] theorem State.issue_done (s : State) (v : Word32) : (s.issue v).done = false := rfl
@[simp] theorem State.issue_proto (s : State) (v : Word32) : (s.issue v).proto = s.proto := rfl
@[simp] theorem State.issue_result (s : State) (v : Word32) : (s.issue v).result = .ok := rfl
@[simp] theorem State.issue_retval (s : State) (v : Word32) : (s.issue v).retval = 0 := rfl
@[simp] theorem State.issue_errinfo (s : State) (v : Word32) : (s.issue v).errinfo = 0 := rfl
@[simp] theorem State.issue_ct (s : State) (v : Word32) : (s.issue v).ct = s.ct := rfl
@[simp] theorem State.issue_ts (s : State) (v : Word32) : (s.issue v).ts = s.ts := rfl
@[simp] theorem State.issue_units (s : State) (v : Word32) : (s.issue v).units = s.units := rfl
@[simp] theorem State.issue_schedule (s : State) (v : Word32) : (s.issue v).schedule = s.schedule := rfl
@[simp] theorem State.issue_reply (s : State) (v : Word32) : (s.issue v).reply = s.reply := rfl

@[simp] theorem State.protocolError_slots (s : State) (r : Reply) : (s.protocolError r).slots = s.slots := rfl
@[simp] theorem State.protocolError_cmdHi (s : State) (r : Reply) : (s.protocolError r).cmdHi = s.cmdHi := rfl
@[simp] theorem State.protocolError_cmdReg (s : State) (r : Reply) : (s.protocolError r).cmdReg = s.cmdReg := rfl
@[simp] theorem State.protocolError_busy (s : State) (r : Reply) : (s.protocolError r).busy = s.busy := rfl
@[simp] theorem State.protocolError_done (s : State) (r : Reply) : (s.protocolError r).done = s.done := rfl
@[simp] theorem State.protocolError_proto (s : State) (r : Reply) : (s.protocolError r).proto = true := rfl
@[simp] theorem State.protocolError_result (s : State) (r : Reply) : (s.protocolError r).result = s.result := rfl
@[simp] theorem State.protocolError_retval (s : State) (r : Reply) : (s.protocolError r).retval = s.retval := rfl
@[simp] theorem State.protocolError_errinfo (s : State) (r : Reply) : (s.protocolError r).errinfo = s.errinfo := rfl
@[simp] theorem State.protocolError_ct (s : State) (r : Reply) : (s.protocolError r).ct = s.ct := rfl
@[simp] theorem State.protocolError_ts (s : State) (r : Reply) : (s.protocolError r).ts = s.ts := rfl
@[simp] theorem State.protocolError_units (s : State) (r : Reply) : (s.protocolError r).units = s.units := rfl
@[simp] theorem State.protocolError_schedule (s : State) (r : Reply) : (s.protocolError r).schedule = s.schedule := rfl
@[simp] theorem State.protocolError_reply (s : State) (r : Reply) : (s.protocolError r).reply = r := rfl

@[simp] theorem State.setSlots_cmdHi (s : State) (ws : List (Slot × Bytes)) : (s.setSlots ws).cmdHi = s.cmdHi := by
  induction ws generalizing s with
  | nil => rfl
  | cons w ws ih => exact (ih (s.setSlot w.1 w.2)).trans rfl

@[simp] theorem State.setSlots_cmdReg (s : State) (ws : List (Slot × Bytes)) : (s.setSlots ws).cmdReg = s.cmdReg := by
  induction ws generalizing s with
  | nil => rfl
  | cons w ws ih => exact (ih (s.setSlot w.1 w.2)).trans rfl

@[simp] theorem State.setSlots_busy (s : State) (ws : List (Slot × Bytes)) : (s.setSlots ws).busy = s.busy := by
  induction ws generalizing s with
  | nil => rfl
  | cons w ws ih => exact (ih (s.setSlot w.1 w.2)).trans rfl

@[simp] theorem State.setSlots_done (s : State) (ws : List (Slot × Bytes)) : (s.setSlots ws).done = s.done := by
  induction ws generalizing s with
  | nil => rfl
  | cons w ws ih => exact (ih (s.setSlot w.1 w.2)).trans rfl

@[simp] theorem State.setSlots_proto (s : State) (ws : List (Slot × Bytes)) : (s.setSlots ws).proto = s.proto := by
  induction ws generalizing s with
  | nil => rfl
  | cons w ws ih => exact (ih (s.setSlot w.1 w.2)).trans rfl

@[simp] theorem State.setSlots_result (s : State) (ws : List (Slot × Bytes)) : (s.setSlots ws).result = s.result := by
  induction ws generalizing s with
  | nil => rfl
  | cons w ws ih => exact (ih (s.setSlot w.1 w.2)).trans rfl

@[simp] theorem State.setSlots_retval (s : State) (ws : List (Slot × Bytes)) : (s.setSlots ws).retval = s.retval := by
  induction ws generalizing s with
  | nil => rfl
  | cons w ws ih => exact (ih (s.setSlot w.1 w.2)).trans rfl

@[simp] theorem State.setSlots_errinfo (s : State) (ws : List (Slot × Bytes)) : (s.setSlots ws).errinfo = s.errinfo := by
  induction ws generalizing s with
  | nil => rfl
  | cons w ws ih => exact (ih (s.setSlot w.1 w.2)).trans rfl

@[simp] theorem State.setSlots_ct (s : State) (ws : List (Slot × Bytes)) : (s.setSlots ws).ct = s.ct := by
  induction ws generalizing s with
  | nil => rfl
  | cons w ws ih => exact (ih (s.setSlot w.1 w.2)).trans rfl

@[simp] theorem State.setSlots_ts (s : State) (ws : List (Slot × Bytes)) : (s.setSlots ws).ts = s.ts := by
  induction ws generalizing s with
  | nil => rfl
  | cons w ws ih => exact (ih (s.setSlot w.1 w.2)).trans rfl

@[simp] theorem State.setSlots_units (s : State) (ws : List (Slot × Bytes)) : (s.setSlots ws).units = s.units := by
  induction ws generalizing s with
  | nil => rfl
  | cons w ws ih => exact (ih (s.setSlot w.1 w.2)).trans rfl

@[simp] theorem State.setSlots_schedule (s : State) (ws : List (Slot × Bytes)) : (s.setSlots ws).schedule = s.schedule := by
  induction ws generalizing s with
  | nil => rfl
  | cons w ws ih => exact (ih (s.setSlot w.1 w.2)).trans rfl

@[simp] theorem State.setSlots_reply (s : State) (ws : List (Slot × Bytes)) : (s.setSlots ws).reply = s.reply := by
  induction ws generalizing s with
  | nil => rfl
  | cons w ws ih => exact (ih (s.setSlot w.1 w.2)).trans rfl

@[simp] theorem State.clearSlots_cmdHi (s : State) (ds : List Slot) : (s.clearSlots ds).cmdHi = s.cmdHi :=
  State.setSlots_cmdHi s _

@[simp] theorem State.clearSlots_cmdReg (s : State) (ds : List Slot) : (s.clearSlots ds).cmdReg = s.cmdReg :=
  State.setSlots_cmdReg s _

@[simp] theorem State.clearSlots_busy (s : State) (ds : List Slot) : (s.clearSlots ds).busy = s.busy :=
  State.setSlots_busy s _

@[simp] theorem State.clearSlots_done (s : State) (ds : List Slot) : (s.clearSlots ds).done = s.done :=
  State.setSlots_done s _

@[simp] theorem State.clearSlots_proto (s : State) (ds : List Slot) : (s.clearSlots ds).proto = s.proto :=
  State.setSlots_proto s _

@[simp] theorem State.clearSlots_result (s : State) (ds : List Slot) : (s.clearSlots ds).result = s.result :=
  State.setSlots_result s _

@[simp] theorem State.clearSlots_retval (s : State) (ds : List Slot) : (s.clearSlots ds).retval = s.retval :=
  State.setSlots_retval s _

@[simp] theorem State.clearSlots_errinfo (s : State) (ds : List Slot) : (s.clearSlots ds).errinfo = s.errinfo :=
  State.setSlots_errinfo s _

@[simp] theorem State.clearSlots_ct (s : State) (ds : List Slot) : (s.clearSlots ds).ct = s.ct :=
  State.setSlots_ct s _

@[simp] theorem State.clearSlots_ts (s : State) (ds : List Slot) : (s.clearSlots ds).ts = s.ts :=
  State.setSlots_ts s _

@[simp] theorem State.clearSlots_units (s : State) (ds : List Slot) : (s.clearSlots ds).units = s.units :=
  State.setSlots_units s _

@[simp] theorem State.clearSlots_schedule (s : State) (ds : List Slot) : (s.clearSlots ds).schedule = s.schedule :=
  State.setSlots_schedule s _

@[simp] theorem State.clearSlots_reply (s : State) (ds : List Slot) : (s.clearSlots ds).reply = s.reply :=
  State.setSlots_reply s _

@[simp] theorem State.succeed_slots (s : State) (ws : List (Slot × Bytes)) (v : Word32) :
    (s.succeed ws v).slots = (s.setSlots ws).slots := rfl

@[simp] theorem State.succeed_cmdHi (s : State) (ws : List (Slot × Bytes)) (v : Word32) :
    (s.succeed ws v).cmdHi = s.cmdHi := State.setSlots_cmdHi s ws

@[simp] theorem State.succeed_cmdReg (s : State) (ws : List (Slot × Bytes)) (v : Word32) :
    (s.succeed ws v).cmdReg = s.cmdReg := State.setSlots_cmdReg s ws

@[simp] theorem State.succeed_busy (s : State) (ws : List (Slot × Bytes)) (v : Word32) :
    (s.succeed ws v).busy = false := rfl

@[simp] theorem State.succeed_done (s : State) (ws : List (Slot × Bytes)) (v : Word32) :
    (s.succeed ws v).done = true := rfl

@[simp] theorem State.succeed_proto (s : State) (ws : List (Slot × Bytes)) (v : Word32) :
    (s.succeed ws v).proto = s.proto := State.setSlots_proto s ws

@[simp] theorem State.succeed_result (s : State) (ws : List (Slot × Bytes)) (v : Word32) :
    (s.succeed ws v).result = .ok := rfl

@[simp] theorem State.succeed_retval (s : State) (ws : List (Slot × Bytes)) (v : Word32) :
    (s.succeed ws v).retval = v := rfl

@[simp] theorem State.succeed_errinfo (s : State) (ws : List (Slot × Bytes)) (v : Word32) :
    (s.succeed ws v).errinfo = 0 := rfl

@[simp] theorem State.succeed_ct (s : State) (ws : List (Slot × Bytes)) (v : Word32) :
    (s.succeed ws v).ct = s.ct := State.setSlots_ct s ws

@[simp] theorem State.succeed_ts (s : State) (ws : List (Slot × Bytes)) (v : Word32) :
    (s.succeed ws v).ts = s.ts := State.setSlots_ts s ws

@[simp] theorem State.succeed_units (s : State) (ws : List (Slot × Bytes)) (v : Word32) :
    (s.succeed ws v).units = {} := rfl

@[simp] theorem State.succeed_schedule (s : State) (ws : List (Slot × Bytes)) (v : Word32) :
    (s.succeed ws v).schedule = s.schedule := State.setSlots_schedule s ws

@[simp] theorem State.succeed_reply (s : State) (ws : List (Slot × Bytes)) (v : Word32) :
    (s.succeed ws v).reply = s.reply := State.setSlots_reply s ws

@[simp] theorem State.raise_cmdHi (s : State) (ds : List Slot) (f : Failure) :
    (s.raise ds f).cmdHi = s.cmdHi := by
  unfold State.raise
  split <;> simp

@[simp] theorem State.raise_cmdReg (s : State) (ds : List Slot) (f : Failure) :
    (s.raise ds f).cmdReg = s.cmdReg := by
  unfold State.raise
  split <;> simp

@[simp] theorem State.raise_busy (s : State) (ds : List Slot) (f : Failure) :
    (s.raise ds f).busy = false := rfl

@[simp] theorem State.raise_done (s : State) (ds : List Slot) (f : Failure) :
    (s.raise ds f).done = true := rfl

@[simp] theorem State.raise_proto (s : State) (ds : List Slot) (f : Failure) :
    (s.raise ds f).proto = s.proto := by
  unfold State.raise
  split <;> simp

@[simp] theorem State.raise_result (s : State) (ds : List Slot) (f : Failure) :
    (s.raise ds f).result = f.result := rfl

@[simp] theorem State.raise_retval (s : State) (ds : List Slot) (f : Failure) :
    (s.raise ds f).retval = f.retval := rfl

@[simp] theorem State.raise_errinfo (s : State) (ds : List Slot) (f : Failure) :
    (s.raise ds f).errinfo = f.errinfo := rfl

@[simp] theorem State.raise_ct (s : State) (ds : List Slot) (f : Failure) :
    (s.raise ds f).ct = s.ct := by
  unfold State.raise
  split <;> simp

@[simp] theorem State.raise_ts (s : State) (ds : List Slot) (f : Failure) :
    (s.raise ds f).ts = s.ts := by
  unfold State.raise
  split <;> simp

@[simp] theorem State.raise_units (s : State) (ds : List Slot) (f : Failure) :
    (s.raise ds f).units = {} := rfl

@[simp] theorem State.raise_schedule (s : State) (ds : List Slot) (f : Failure) :
    (s.raise ds f).schedule = s.schedule := by
  unfold State.raise
  split <;> simp

@[simp] theorem State.raise_reply (s : State) (ds : List Slot) (f : Failure) :
    (s.raise ds f).reply = s.reply := by
  unfold State.raise
  split <;> simp

end Sys2Proof.Machine
end

