-- ==== Sys2Proof/Laws/Ops.lean ====
section
/-! SUPPORT. What the shared operations can do: slots read after writes, the checks, how a command ends. -/

namespace Sys2Proof.Machine

open Sys2Proof

/-! Slots: read after write. -/

theorem State.slot_setSlot (s : State) (i j : Slot) (b : Bytes) :
    (s.setSlot i b).slot j = if j = i then b else s.slot j := by
  by_cases h : j = i
  · subst h; simp [State.slot]
  · have : (i : Nat) ≠ j := fun e => h (Fin.ext e.symm)
    simp [State.slot, h, Vector.getElem_set_ne, this]

@[simp] theorem State.slot_setSlot_same (s : State) (i : Slot) (b : Bytes) : (s.setSlot i b).slot i = b := by
  simp [State.slot_setSlot]

theorem State.slot_setSlot_ne (s : State) (i j : Slot) (b : Bytes) (h : j ≠ i) :
    (s.setSlot i b).slot j = s.slot j := by
  simp [State.slot_setSlot, h]

@[simp] theorem State.setSlots_nil (s : State) : s.setSlots [] = s := rfl

@[simp] theorem State.setSlots_cons (s : State) (w : Slot × Bytes) (ws : List (Slot × Bytes)) :
    s.setSlots (w :: ws) = (s.setSlot w.1 w.2).setSlots ws := rfl

theorem State.slot_setSlots_of_notMem (s : State) (ws : List (Slot × Bytes)) (j : Slot)
    (h : ∀ w ∈ ws, j ≠ w.1) : (s.setSlots ws).slot j = s.slot j := by
  induction ws generalizing s with
  | nil => rfl
  | cons w ws ih =>
    rw [State.setSlots_cons, ih _ fun v hv => h v (by simp [hv]), State.slot_setSlot_ne _ _ _ _ (h w (by simp))]

theorem State.slot_clearSlots (s : State) (ds : List Slot) (j : Slot) :
    (s.clearSlots ds).slot j = if j ∈ ds then [] else s.slot j := by
  unfold State.clearSlots
  induction ds generalizing s with
  | nil => simp
  | cons d ds ih =>
    rw [List.map_cons, State.setSlots_cons, ih, State.slot_setSlot]
    by_cases h : j ∈ ds <;> by_cases h' : j = d <;> simp [h, h']

@[simp] theorem State.slot_finish (s : State) (c : ResultCode) (v e : Word32) (j : Slot) :
    (s.finish c v e).slot j = s.slot j := rfl

@[simp] theorem State.slot_issue (s : State) (v : Word32) (j : Slot) : (s.issue v).slot j = s.slot j := rfl

@[simp] theorem State.slot_setCert (s : State) (idx : Nat) (r : Option CertRecord) (j : Slot) :
    (s.setCert idx r).slot j = s.slot j := rfl

@[simp] theorem State.slot_succeed (s : State) (ws : List (Slot × Bytes)) (v : Word32) (j : Slot) :
    (s.succeed ws v).slot j = (s.setSlots ws).slot j := rfl

theorem State.slot_raise (s : State) (ds : List Slot) (f : Failure) (j : Slot) :
    (s.raise ds f).slot j = if f.clearsDests = true ∧ j ∈ ds then [] else s.slot j := by
  unfold State.raise
  by_cases h : f.clearsDests = true
  · simp [h, State.slot_clearSlots]
  · simp [h]

/-! The certificate table: read after write. -/

theorem State.cert_setCert (s : State) (i j : Nat) (r : Option CertRecord) :
    (s.setCert i r).cert j = if j = i ∧ i < 16 then r else s.cert j := by
  unfold State.cert
  rw [State.setCert_ct, Vector.getElem?_setIfInBounds]
  by_cases h : i = j
  · subst h
    by_cases h' : i < 16
    · simp [h']
    · simp [h']
  · have : ¬ j = i := fun e => h e.symm
    simp [h, this]

/-! Limits. -/

/-- R9: SLOT_MAX lies in its stated range. -/
theorem slotMax_bounds : 1048576 ≤ Config.slotMax ∧ Config.slotMax ≤ 4294967295 := by
  have := Config.slotMaxExcess.isLt
  unfold Config.slotMax
  omega

theorem overSlotMax_eq (n : Nat) : overSlotMax n = decide (Config.slotMax < n) := by
  have := slotMax_bounds.1
  unfold overSlotMax
  by_cases h : Config.slotMax < n
  · simp [h]; omega
  · simp [h]

theorem checkFits_eq (n : Nat) : checkFits n = if Config.slotMax < n then some .overflow else none := by
  simp [checkFits, overSlotMax_eq]

theorem countWord_of_lt (n : Nat) (h : n < 4294967296) : countWord n = BitVec.ofNat 32 n := if_pos h

theorem countWord_of_le (n : Nat) (h : n ≤ Config.slotMax) : countWord n = BitVec.ofNat 32 n :=
  countWord_of_lt n (by have := slotMax_bounds.2; omega)

/-! How a command ends. -/

theorem State.ended_finish (s : State) (c : ResultCode) (v e : Word32) : Ended s (s.finish c v e) c v e :=
  ⟨rfl, rfl, rfl, rfl, rfl, rfl, rfl, rfl, rfl, rfl, rfl⟩

theorem State.ended_succeed (s : State) (ws : List (Slot × Bytes)) (v : Word32) :
    Ended s (s.succeed ws v) .ok v 0 := by
  constructor <;> simp

theorem State.ended_raise (s : State) (ds : List Slot) (f : Failure) :
    Ended s (s.raise ds f) f.result f.retval f.errinfo := by
  constructor <;> simp

/-- The first failing check of a command is raised. -/
theorem State.run_of_some (s : State) (ds : List Slot) (cs : List (Option Failure)) (body : Unit → State)
    (f : Failure) (h : firstFailure cs = some f) : s.run ds cs body = .next (s.raise ds f) := by
  simp [State.run, h]

/-- A command whose checks all pass runs its body. -/
theorem State.run_of_none (s : State) (ds : List Slot) (cs : List (Option Failure)) (body : Unit → State)
    (h : firstFailure cs = none) : s.run ds cs body = .next (body ()) := by
  simp [State.run, h]

/-- All a command can do: raise the first failing check, or run its body. -/
theorem State.run_cases (s t : State) (ds : List Slot) (cs : List (Option Failure)) (body : Unit → State)
    (h : s.run ds cs body = .next t) :
    (∃ f, firstFailure cs = some f ∧ t = s.raise ds f) ∨ (firstFailure cs = none ∧ t = body ()) := by
  unfold State.run at h
  split at h
  · rename_i f hf
    exact .inl ⟨f, hf, by simpa using h.symm⟩
  · rename_i hf
    exact .inr ⟨hf, by simpa using h.symm⟩

@[simp] theorem firstFailure_nil : firstFailure [] = none := rfl
@[simp] theorem firstFailure_some (f : Failure) (r : List (Option Failure)) : firstFailure (some f :: r) = some f := rfl
@[simp] theorem firstFailure_none (r : List (Option Failure)) : firstFailure (none :: r) = firstFailure r := rfl

theorem firstFailure_mem (cs : List (Option Failure)) (f : Failure) (h : firstFailure cs = some f) : some f ∈ cs := by
  induction cs with
  | nil => simp at h
  | cons c cs ih => cases c <;> simp_all

@[simp] theorem checkLength_of_eq (k : Nat) (b : Bytes) (n : Nat) (h : b.length = n) : checkLength k b n = none :=
  if_pos h

@[simp] theorem checkLength_of_ne (k : Nat) (b : Bytes) (n : Nat) (h : b.length ≠ n) :
    checkLength k b n = some (.badLength k) := if_neg h

@[simp] theorem checkMaxLength_of_le (k : Nat) (b : Bytes) (n : Nat) (h : b.length ≤ n) : checkMaxLength k b n = none :=
  if_pos h

@[simp] theorem checkMaxLength_of_lt (k : Nat) (b : Bytes) (n : Nat) (h : n < b.length) :
    checkMaxLength k b n = some (.badLength k) := if_neg (by omega)

@[simp] theorem checkIndex_of_lt (n : Nat) (h : n < 16) : checkIndex n = none := if_pos h

@[simp] theorem checkIndex_of_le (n : Nat) (h : 16 ≤ n) : checkIndex n = some .badIndex := if_neg (by omega)

@[simp] theorem checkAlias_same (rd : Slot) : checkAlias rd rd = some .operandAlias := if_pos rfl

@[simp] theorem checkAlias_of_ne (rd rd2 : Slot) (h : rd ≠ rd2) : checkAlias rd rd2 = none := if_neg h

@[simp] theorem checkImm_true : checkImm true = none := rfl
@[simp] theorem checkImm_false : checkImm false = some .badImm := rfl

/-- A command that ends with OK and writes nothing. -/
theorem completesOk_nothing (s : State) (v : Word32) : CompletesOk (.next (s.succeed [] v)) s s.slot v :=
  ⟨_, rfl, s.ended_succeed _ _, fun _ => rfl, by simp, by simp⟩

/-- A command that ends with OK and writes one slot. -/
theorem completesOk_one (s : State) (rd : Slot) (out : Bytes) (v : Word32) :
    CompletesOk (.next (s.succeed [(rd, out)] v)) s (written s rd out) v :=
  ⟨_, rfl, s.ended_succeed _ _, fun j => by simp [written, State.slot_setSlot], by simp, by simp⟩

/-- A command that ends with OK and writes two slots. -/
theorem completesOk_two (s : State) (rd rd2 : Slot) (out out2 : Bytes) (v : Word32) :
    CompletesOk (.next (s.succeed [(rd, out), (rd2, out2)] v)) s (written2 s rd out rd2 out2) v :=
  ⟨_, rfl, s.ended_succeed _ _, fun j => by simp [written2, State.slot_setSlot], by simp, by simp⟩

/-- A command that ends with a failure that clears its destinations. -/
theorem failsWith_raise (s : State) (ds : List Slot) (f : Failure) (h : f.clearsDests = true) :
    FailsWith (.next (s.raise ds f)) s ds f :=
  ⟨_, rfl, s.ended_raise _ _, fun j => by simp [State.slot_raise, h], by simp, by simp⟩

/-- A command that ends with a failure that touches no slot. -/
theorem failsWith_raise_untouched (s : State) (ds : List Slot) (f : Failure) (h : f.clearsDests = false) :
    FailsWith (.next (s.raise ds f)) s [] f :=
  ⟨_, rfl, s.ended_raise _ _, fun j => by simp [State.slot_raise, h], by simp, by simp⟩

/-- R79: the delivery of a result whose length depends on the data. -/
theorem State.deliver_eq (s : State) (rd : Slot) (out : Bytes) (v : Word32) :
    s.deliver rd out v = if Config.slotMax < out.length then s.raise [rd] .overflow else s.succeed [(rd, out)] v := by
  simp [State.deliver, overSlotMax_eq]

theorem State.withCert_some (s : State) (ds : List Slot) (idx : Nat) (body : CertRecord → State) (r : CertRecord)
    (h : s.cert idx = some r) : s.withCert ds idx body = body r := by
  simp [State.withCert, h]

theorem State.withCert_none (s : State) (ds : List Slot) (idx : Nat) (body : CertRecord → State)
    (h : s.cert idx = none) : s.withCert ds idx body = s.raise ds .noCert := by
  simp [State.withCert, h]

end Sys2Proof.Machine
end

