-- ==== Sys2Proof/Laws/PerInstr.lean ====
section
/-! SUPPORT. Statements made for every instruction, one lemma per constructor of `Instr`. -/

namespace Sys2Proof.Laws

open Sys2Proof

/-- Every instruction is well formed: its fields are those of a legal command word (30_encoding.md R97). -/
def EncodesLegal.Statement (i : Instr) : Prop := i.wellFormed = true

theorem EncodesLegal.nop : EncodesLegal.Statement (.nop) := rfl
theorem EncodesLegal.slotClear (rd : Slot) : EncodesLegal.Statement (.slotClear rd) := rfl
theorem EncodesLegal.slotCopy (rd rs1 : Slot) : EncodesLegal.Statement (.slotCopy rd rs1) := rfl
theorem EncodesLegal.slotConcat (rd rs1 rs2 : Slot) : EncodesLegal.Statement (.slotConcat rd rs1 rs2) := rfl
theorem EncodesLegal.ctCmp (rs1 rs2 : Slot) : EncodesLegal.Statement (.ctCmp rs1 rs2) := rfl
theorem EncodesLegal.hashSha256 (rd rs1 : Slot) : EncodesLegal.Statement (.hashSha256 rd rs1) := rfl
theorem EncodesLegal.hashSha384 (rd rs1 : Slot) : EncodesLegal.Statement (.hashSha384 rd rs1) := rfl
theorem EncodesLegal.hashSha512 (rd rs1 : Slot) : EncodesLegal.Statement (.hashSha512 rd rs1) := rfl
theorem EncodesLegal.shaCompressSha256 (rd rs1 rs2 : Slot) : EncodesLegal.Statement (.shaCompressSha256 rd rs1 rs2) := rfl
theorem EncodesLegal.shaCompressSha384 (rd rs1 rs2 : Slot) : EncodesLegal.Statement (.shaCompressSha384 rd rs1 rs2) := rfl
theorem EncodesLegal.shaCompressSha512 (rd rs1 rs2 : Slot) : EncodesLegal.Statement (.shaCompressSha512 rd rs1 rs2) := rfl
theorem EncodesLegal.shaPadSha256 (rd rs1 : Slot) : EncodesLegal.Statement (.shaPadSha256 rd rs1) := rfl
theorem EncodesLegal.shaPadSha384 (rd rs1 : Slot) : EncodesLegal.Statement (.shaPadSha384 rd rs1) := rfl
theorem EncodesLegal.shaPadSha512 (rd rs1 : Slot) : EncodesLegal.Statement (.shaPadSha512 rd rs1) := rfl
theorem EncodesLegal.shaIvSha256 (rd : Slot) : EncodesLegal.Statement (.shaIvSha256 rd) := rfl
theorem EncodesLegal.shaIvSha384 (rd : Slot) : EncodesLegal.Statement (.shaIvSha384 rd) := rfl
theorem EncodesLegal.shaIvSha512 (rd : Slot) : EncodesLegal.Statement (.shaIvSha512 rd) := rfl
theorem EncodesLegal.hmacSha256 (rd rs1 rs2 : Slot) : EncodesLegal.Statement (.hmacSha256 rd rs1 rs2) := rfl
theorem EncodesLegal.hmacSha384 (rd rs1 rs2 : Slot) : EncodesLegal.Statement (.hmacSha384 rd rs1 rs2) := rfl
theorem EncodesLegal.hmacSha512 (rd rs1 rs2 : Slot) : EncodesLegal.Statement (.hmacSha512 rd rs1 rs2) := rfl
theorem EncodesLegal.hkdfExtractSha256 (rd rs1 rs2 : Slot) : EncodesLegal.Statement (.hkdfExtractSha256 rd rs1 rs2) := rfl
theorem EncodesLegal.hkdfExtractSha384 (rd rs1 rs2 : Slot) : EncodesLegal.Statement (.hkdfExtractSha384 rd rs1 rs2) := rfl
theorem EncodesLegal.hkdfExtractSha512 (rd rs1 rs2 : Slot) : EncodesLegal.Statement (.hkdfExtractSha512 rd rs1 rs2) := rfl
theorem EncodesLegal.hkdfExpandSha256 (rd rs1 rs2 : Slot) (imm : Word32) : EncodesLegal.Statement (.hkdfExpandSha256 rd rs1 rs2 imm) := rfl
theorem EncodesLegal.hkdfExpandSha384 (rd rs1 rs2 : Slot) (imm : Word32) : EncodesLegal.Statement (.hkdfExpandSha384 rd rs1 rs2 imm) := rfl
theorem EncodesLegal.hkdfExpandSha512 (rd rs1 rs2 : Slot) (imm : Word32) : EncodesLegal.Statement (.hkdfExpandSha512 rd rs1 rs2 imm) := rfl
theorem EncodesLegal.hkdfExpandLabelSha256 (rd rs1 rs2 rs3 : Slot) (imm : Word32) : EncodesLegal.Statement (.hkdfExpandLabelSha256 rd rs1 rs2 rs3 imm) := rfl
theorem EncodesLegal.hkdfExpandLabelSha384 (rd rs1 rs2 rs3 : Slot) (imm : Word32) : EncodesLegal.Statement (.hkdfExpandLabelSha384 rd rs1 rs2 rs3 imm) := rfl
theorem EncodesLegal.hkdfExpandLabelSha512 (rd rs1 rs2 rs3 : Slot) (imm : Word32) : EncodesLegal.Statement (.hkdfExpandLabelSha512 rd rs1 rs2 rs3 imm) := rfl
theorem EncodesLegal.aesKeyexp (rd rs1 : Slot) : EncodesLegal.Statement (.aesKeyexp rd rs1) := rfl
theorem EncodesLegal.aesEnc (rd rs1 rs2 : Slot) : EncodesLegal.Statement (.aesEnc rd rs1 rs2) := rfl
theorem EncodesLegal.gf128Mul (rd rs1 rs2 : Slot) : EncodesLegal.Statement (.gf128Mul rd rs1 rs2) := rfl
theorem EncodesLegal.ghash (rd rs1 rs2 rs3 : Slot) : EncodesLegal.Statement (.ghash rd rs1 rs2 rs3) := rfl
theorem EncodesLegal.aesCtr (rd rs1 rs2 rs3 : Slot) : EncodesLegal.Statement (.aesCtr rd rs1 rs2 rs3) := rfl
theorem EncodesLegal.gcmEnc (rd rd2 rs1 rs2 rs3 rs4 : Slot) : EncodesLegal.Statement (.gcmEnc rd rd2 rs1 rs2 rs3 rs4) := rfl
theorem EncodesLegal.gcmDec (rd rs1 rs2 rs3 rs4 rs5 : Slot) : EncodesLegal.Statement (.gcmDec rd rs1 rs2 rs3 rs4 rs5) := rfl
theorem EncodesLegal.chacha20Block (rd rs1 rs2 : Slot) (imm : Word32) : EncodesLegal.Statement (.chacha20Block rd rs1 rs2 imm) := rfl
theorem EncodesLegal.chacha20Xor (rd rs1 rs2 rs3 : Slot) (imm : Word32) : EncodesLegal.Statement (.chacha20Xor rd rs1 rs2 rs3 imm) := rfl
theorem EncodesLegal.poly1305 (rd rs1 rs2 : Slot) : EncodesLegal.Statement (.poly1305 rd rs1 rs2) := rfl
theorem EncodesLegal.ccpEnc (rd rd2 rs1 rs2 rs3 rs4 : Slot) : EncodesLegal.Statement (.ccpEnc rd rd2 rs1 rs2 rs3 rs4) := rfl
theorem EncodesLegal.ccpDec (rd rs1 rs2 rs3 rs4 rs5 : Slot) : EncodesLegal.Statement (.ccpDec rd rs1 rs2 rs3 rs4 rs5) := rfl
theorem EncodesLegal.x25519 (rd rs1 rs2 : Slot) : EncodesLegal.Statement (.x25519 rd rs1 rs2) := rfl
theorem EncodesLegal.x25519Base (rd rs1 : Slot) : EncodesLegal.Statement (.x25519Base rd rs1) := rfl
theorem EncodesLegal.gfMul (rd rs1 rs2 : Slot) : EncodesLegal.Statement (.gfMul rd rs1 rs2) := rfl
theorem EncodesLegal.gfInv (rd rs1 : Slot) : EncodesLegal.Statement (.gfInv rd rs1) := rfl
theorem EncodesLegal.ladder (rd rd2 rs1 rs2 : Slot) : EncodesLegal.Statement (.ladder rd rd2 rs1 rs2) := rfl
theorem EncodesLegal.derParse (rd rs1 : Slot) : EncodesLegal.Statement (.derParse rd rs1) := rfl
theorem EncodesLegal.certParse (rs1 : Slot) (imm : Word32) : EncodesLegal.Statement (.certParse rs1 imm) := rfl
theorem EncodesLegal.certField (rd : Slot) (imm : Word32) : EncodesLegal.Statement (.certField rd imm) := rfl
theorem EncodesLegal.certSan (rd : Slot) (imm : Word32) : EncodesLegal.Statement (.certSan rd imm) := rfl
theorem EncodesLegal.certBc (imm : Word32) : EncodesLegal.Statement (.certBc imm) := rfl
theorem EncodesLegal.certKu (imm : Word32) : EncodesLegal.Statement (.certKu imm) := rfl
theorem EncodesLegal.certHostname (rs1 : Slot) (imm : Word32) : EncodesLegal.Statement (.certHostname rs1 imm) := rfl
theorem EncodesLegal.hostnameMatch (rs1 rs2 : Slot) : EncodesLegal.Statement (.hostnameMatch rs1 rs2) := rfl
theorem EncodesLegal.certValidity (rs1 : Slot) (imm : Word32) : EncodesLegal.Statement (.certValidity rs1 imm) := rfl
theorem EncodesLegal.chainValidate (rs1 : Slot) (imm : Word32) : EncodesLegal.Statement (.chainValidate rs1 imm) := rfl
theorem EncodesLegal.tsAdd (rs1 : Slot) : EncodesLegal.Statement (.tsAdd rs1) := rfl
theorem EncodesLegal.tsQuery (imm : Word32) : EncodesLegal.Statement (.tsQuery imm) := rfl
theorem EncodesLegal.ocspCheck (rs1 rs2 : Slot) (imm : Word32) : EncodesLegal.Statement (.ocspCheck rs1 rs2 imm) := rfl

end Sys2Proof.Laws
end

