-- ==== Sys2Proof/Tests/Slice0.lean ====
section
/-! SUPPORT. Tests: words written out from the encoding of 30_encoding.md, one step per test with the values of
95_test_vectors.md and 96_test_vectors_families.md, and for every statement that has hypotheses a state and
operands that meet them. -/

namespace Sys2Proof.Tests

open Sys2Proof Sys2Proof.Machine

set_option Elab.async false

/-- The `n` bytes of a number written in hexadecimal, the first byte first. -/
def hex (n v : Nat) : Bytes := (List.range n).map fun i => BitVec.ofNat 8 (v >>> (8 * (n - 1 - i)))

/-- `n` times one byte. -/
def rep (n : Nat) (b : Byte) : Bytes := List.replicate n b

/-- The state after reset with these slots written. -/
def loaded (slots : List (Slot × Bytes)) : State := State.reset.setSlots slots

/-- The step that runs the command word `w` from `s` ends with this result, RETVAL and ERRINFO and leaves these slots. -/
def runs (s : State) (w : Nat) (result : ResultCode) (retval errinfo : Nat) (slots : List (Slot × Bytes)) : Bool :=
  match step (s.withFetchWord 64 w) with
  | .next t =>
    t.result == result && t.retval.toNat == retval && t.errinfo.toNat == errinfo && t.busy == false &&
      t.done == true && slots.all fun x => t.slot x.1 == x.2
  | _ => false

/-- Certificate A of 96_test_vectors_families.md section 2.8. -/
def certificateA : Bytes := hex 326 0x308201423081f5a00302010202021234300506032b65703023310b30090603550406130255533114301206035504030c0b4578616d706c652e636f6d301e170d3234303130313030303030305a170d3334303130313030303030305a3023310b30090603550406130255533114301206035504030c0b4578616d706c652e636f6d302a300506032b657003210003a107bff3ce10be1d70dd18e74bc09967e4d6309ba50d5f1ddc8664125531b8a34d304b30120603551d130101ff040830060101ff020101300e0603551d0f0101ff04040302018630250603551d11041e301c820b6578616d706c652e636f6d820d2a2e6578616d706c652e636f6d300506032b6570034100e4586f902ec4622cd6aa3161544d71323837b6edfe6bd6b8f47734e8159c75b1e7f6c1825adf3c537e9390b3dcfa6a112f9b99efe5edf6547a30d03a12dca805

/-- The record of certificate A, from the table of its fields there. -/
def recordA : CertRecord where
  version := 3
  serialNumber := hex 2 0x1234
  issuer := [⟨hex 3 0x550406, hex 2 0x5553⟩, ⟨hex 3 0x550403, hex 11 0x4578616d706c652e636f6d⟩]
  subject := [⟨hex 3 0x550406, hex 2 0x5553⟩, ⟨hex 3 0x550403, hex 11 0x4578616d706c652e636f6d⟩]
  notBefore := 0x0000000065920080
  notAfter := 0x000000007861f800
  publicKeyAlgorithm := hex 3 0x2b6570
  publicKeyBytes := hex 32 0x03a107bff3ce10be1d70dd18e74bc09967e4d6309ba50d5f1ddc8664125531b8
  extensions := [
    ⟨hex 3 0x551d13, true, hex 8 0x30060101ff020101⟩,
    ⟨hex 3 0x551d0f, true, hex 4 0x03020186⟩,
    ⟨hex 3 0x551d11, false, hex 30 0x301c820b6578616d706c652e636f6d820d2a2e6578616d706c652e636f6d⟩]
  signatureAlgorithm := hex 3 0x2b6570
  signatureBytes := hex 64 0xe4586f902ec4622cd6aa3161544d71323837b6edfe6bd6b8f47734e8159c75b1e7f6c1825adf3c537e9390b3dcfa6a112f9b99efe5edf6547a30d03a12dca805
  tbsCertificateBytes := slice certificateA 4 252
  rawBytes := certificateA

/-- The record of certificate B, from the table of its fields there (the raw bytes left out). -/
def recordB : CertRecord :=
  { recordA with
    version := 1
    serialNumber := hex 1 0x01
    subject := [⟨hex 3 0x550403, hex 15 0x6f6c642e6578616d706c652e6f7267⟩, ⟨hex 3 0x55040a, hex 3 0x4f7267⟩,
      ⟨hex 3 0x550403, hex 15 0x7777772e4578616d706c652e4f5247⟩]
    notAfter := 0x00000000967a7600
    extensions := []
    rawBytes := [] }

/-- The state after reset with these slots written, record A in entry 0 and record B in entry 1. -/
def withCerts (slots : List (Slot × Bytes)) : State :=
  ((loaded slots).setCert 0 (some recordA)).setCert 1 (some recordB)

/-! Well-formedness: an ill-formed term for each check of R97, which the check refuses. -/

theorem test_wellFormed_opcode : (Fields.mk 0 0 0 0 0 0 0 0 0 0 0x05).opcodeOk = false := by decide
theorem test_wellFormed_reserved : ({ opcode := 0x10, reserved := 1 } : Fields).reservedOk = false := by decide
theorem test_wellFormed_variant : ({ opcode := 0x10, var := 3 } : Fields).variantOk = false := by decide
theorem test_wellFormed_no_variant : ({ opcode := 0x31, var := 1 } : Fields).variantOk = false := by decide
theorem test_wellFormed_slots : ({ opcode := 0x10, rs2 := 1 } : Fields).slotsOk = false := by decide
theorem test_wellFormed_imm : ({ opcode := 0x10, imm := 1 } : Fields).immOk = false := by decide
theorem test_wellFormed_refuses :
    [({ opcode := 0x05 } : Fields), { opcode := 0x10, reserved := 1 }, { opcode := 0x10, var := 3 },
      { opcode := 0x31, var := 1 }, { opcode := 0x10, rs2 := 1 }, { opcode := 0x10, imm := 1 }].map
      Fields.wellFormed = [false, false, false, false, false, false] := by decide
theorem test_wellFormed_accepts : ({ opcode := 0x10, rd := 1 } : Fields).wellFormed = true := by decide

/-! Decoding: for every constructor a word written out from the fields of R91 and the row of R95, with `rd` = 1,
`rs1` to `rs5` = 2 to 6, `rd2` = 7 and `imm` = 0x89ABCDEF wherever the row has them. -/

theorem test_decode_nop : decode 0x0000000000000000#64 = .ok .nop := by decide
theorem test_decode_slotClear : decode 0x0000000000000401#64 = .ok (.slotClear 1) := by decide
theorem test_decode_slotCopy : decode 0x0000000000020402#64 = .ok (.slotCopy 1 2) := by decide
theorem test_decode_slotConcat : decode 0x00000000001A0403#64 = .ok (.slotConcat 1 2 3) := by decide
theorem test_decode_ctCmp : decode 0x00000000001A0004#64 = .ok (.ctCmp 2 3) := by decide
theorem test_decode_hashSha256 : decode 0x0000000000020410#64 = .ok (.hashSha256 1 2) := by decide
theorem test_decode_hashSha384 : decode 0x0000000000020510#64 = .ok (.hashSha384 1 2) := by decide
theorem test_decode_hashSha512 : decode 0x0000000000020610#64 = .ok (.hashSha512 1 2) := by decide
theorem test_decode_shaCompressSha256 : decode 0x00000000001A0411#64 = .ok (.shaCompressSha256 1 2 3) := by decide
theorem test_decode_shaCompressSha384 : decode 0x00000000001A0511#64 = .ok (.shaCompressSha384 1 2 3) := by decide
theorem test_decode_shaCompressSha512 : decode 0x00000000001A0611#64 = .ok (.shaCompressSha512 1 2 3) := by decide
theorem test_decode_shaPadSha256 : decode 0x0000000000020412#64 = .ok (.shaPadSha256 1 2) := by decide
theorem test_decode_shaPadSha384 : decode 0x0000000000020512#64 = .ok (.shaPadSha384 1 2) := by decide
theorem test_decode_shaPadSha512 : decode 0x0000000000020612#64 = .ok (.shaPadSha512 1 2) := by decide
theorem test_decode_shaIvSha256 : decode 0x0000000000000413#64 = .ok (.shaIvSha256 1) := by decide
theorem test_decode_shaIvSha384 : decode 0x0000000000000513#64 = .ok (.shaIvSha384 1) := by decide
theorem test_decode_shaIvSha512 : decode 0x0000000000000613#64 = .ok (.shaIvSha512 1) := by decide
theorem test_decode_hmacSha256 : decode 0x00000000001A0420#64 = .ok (.hmacSha256 1 2 3) := by decide
theorem test_decode_hmacSha384 : decode 0x00000000001A0520#64 = .ok (.hmacSha384 1 2 3) := by decide
theorem test_decode_hmacSha512 : decode 0x00000000001A0620#64 = .ok (.hmacSha512 1 2 3) := by decide
theorem test_decode_hkdfExtractSha256 : decode 0x00000000001A0421#64 = .ok (.hkdfExtractSha256 1 2 3) := by decide
theorem test_decode_hkdfExtractSha384 : decode 0x00000000001A0521#64 = .ok (.hkdfExtractSha384 1 2 3) := by decide
theorem test_decode_hkdfExtractSha512 : decode 0x00000000001A0621#64 = .ok (.hkdfExtractSha512 1 2 3) := by decide
theorem test_decode_hkdfExpandSha256 : decode 0x89ABCDEF001A0422#64 = .ok (.hkdfExpandSha256 1 2 3 0x89ABCDEF) := by decide
theorem test_decode_hkdfExpandSha384 : decode 0x89ABCDEF001A0522#64 = .ok (.hkdfExpandSha384 1 2 3 0x89ABCDEF) := by decide
theorem test_decode_hkdfExpandSha512 : decode 0x89ABCDEF001A0622#64 = .ok (.hkdfExpandSha512 1 2 3 0x89ABCDEF) := by decide
theorem test_decode_hkdfExpandLabelSha256 : decode 0x89ABCDEF011A0423#64 = .ok (.hkdfExpandLabelSha256 1 2 3 4 0x89ABCDEF) := by decide
theorem test_decode_hkdfExpandLabelSha384 : decode 0x89ABCDEF011A0523#64 = .ok (.hkdfExpandLabelSha384 1 2 3 4 0x89ABCDEF) := by decide
theorem test_decode_hkdfExpandLabelSha512 : decode 0x89ABCDEF011A0623#64 = .ok (.hkdfExpandLabelSha512 1 2 3 4 0x89ABCDEF) := by decide
theorem test_decode_aesKeyexp : decode 0x0000000000020430#64 = .ok (.aesKeyexp 1 2) := by decide
theorem test_decode_aesEnc : decode 0x00000000001A0431#64 = .ok (.aesEnc 1 2 3) := by decide
theorem test_decode_gf128Mul : decode 0x00000000001A0432#64 = .ok (.gf128Mul 1 2 3) := by decide
theorem test_decode_ghash : decode 0x00000000011A0433#64 = .ok (.ghash 1 2 3 4) := by decide
theorem test_decode_aesCtr : decode 0x00000000011A0434#64 = .ok (.aesCtr 1 2 3 4) := by decide
theorem test_decode_gcmEnc : decode 0x000000000B1AE435#64 = .ok (.gcmEnc 1 7 2 3 4 5) := by decide
theorem test_decode_gcmDec : decode 0x000000006B1A0436#64 = .ok (.gcmDec 1 2 3 4 5 6) := by decide
theorem test_decode_chacha20Block : decode 0x89ABCDEF001A0440#64 = .ok (.chacha20Block 1 2 3 0x89ABCDEF) := by decide
theorem test_decode_chacha20Xor : decode 0x89ABCDEF011A0441#64 = .ok (.chacha20Xor 1 2 3 4 0x89ABCDEF) := by decide
theorem test_decode_poly1305 : decode 0x00000000001A0442#64 = .ok (.poly1305 1 2 3) := by decide
theorem test_decode_ccpEnc : decode 0x000000000B1AE443#64 = .ok (.ccpEnc 1 7 2 3 4 5) := by decide
theorem test_decode_ccpDec : decode 0x000000006B1A0444#64 = .ok (.ccpDec 1 2 3 4 5 6) := by decide
theorem test_decode_x25519 : decode 0x00000000001A0450#64 = .ok (.x25519 1 2 3) := by decide
theorem test_decode_x25519Base : decode 0x0000000000020451#64 = .ok (.x25519Base 1 2) := by decide
theorem test_decode_gfMul : decode 0x00000000001A0452#64 = .ok (.gfMul 1 2 3) := by decide
theorem test_decode_gfInv : decode 0x0000000000020453#64 = .ok (.gfInv 1 2) := by decide
theorem test_decode_ladder : decode 0x00000000001AE454#64 = .ok (.ladder 1 7 2 3) := by decide
theorem test_decode_derParse : decode 0x0000000000020460#64 = .ok (.derParse 1 2) := by decide
theorem test_decode_certParse : decode 0x89ABCDEF00020070#64 = .ok (.certParse 2 0x89ABCDEF) := by decide
theorem test_decode_certField : decode 0x89ABCDEF00000471#64 = .ok (.certField 1 0x89ABCDEF) := by decide
theorem test_decode_certSan : decode 0x89ABCDEF00000472#64 = .ok (.certSan 1 0x89ABCDEF) := by decide
theorem test_decode_certBc : decode 0x89ABCDEF00000073#64 = .ok (.certBc 0x89ABCDEF) := by decide
theorem test_decode_certKu : decode 0x89ABCDEF00000074#64 = .ok (.certKu 0x89ABCDEF) := by decide
theorem test_decode_certHostname : decode 0x89ABCDEF00020075#64 = .ok (.certHostname 2 0x89ABCDEF) := by decide
theorem test_decode_hostnameMatch : decode 0x00000000001A0076#64 = .ok (.hostnameMatch 2 3) := by decide
theorem test_decode_certValidity : decode 0x89ABCDEF00020077#64 = .ok (.certValidity 2 0x89ABCDEF) := by decide
theorem test_decode_chainValidate : decode 0x89ABCDEF00020078#64 = .ok (.chainValidate 2 0x89ABCDEF) := by decide
theorem test_decode_tsAdd : decode 0x0000000000020079#64 = .ok (.tsAdd 2) := by decide
theorem test_decode_tsQuery : decode 0x89ABCDEF0000007A#64 = .ok (.tsQuery 0x89ABCDEF) := by decide
theorem test_decode_ocspCheck : decode 0x89ABCDEF001A007B#64 = .ok (.ocspCheck 2 3 0x89ABCDEF) := by decide

/-! Family System (95_test_vectors.md section 2.1). -/

theorem test_nop :
    runs (loaded [(3, (hex 1 0x6b))]) 0x0000000000000000 .ok 0 0
      [(3, (hex 1 0x6b))] = true := by
  decide +kernel

theorem test_slot_clear :
    runs (loaded [(2, (hex 2 0x0102)), (1, (hex 1 0x03))]) 0x0000000000000801 .ok 0 0
      [(2, []), (1, (hex 1 0x03))] = true := by
  decide +kernel

theorem test_slot_copy :
    runs (loaded [(2, (hex 3 0x010203))]) 0x0000000000021c02 .ok 3 0
      [(7, (hex 3 0x010203)), (2, (hex 3 0x010203))] = true := by
  decide +kernel

theorem test_slot_concat :
    runs (loaded [(0, (hex 2 0x0102)), (1, (hex 1 0x03))]) 0x0000000000080803 .ok 3 0
      [(2, (hex 3 0x010203)), (0, (hex 2 0x0102))] = true := by
  decide +kernel

theorem test_slot_concat_same :
    runs (loaded [(0, (hex 2 0x0102))]) 0x0000000000000003 .ok 4 0
      [(0, (hex 4 0x01020102))] = true := by
  decide +kernel

theorem test_ct_cmp_equal :
    runs (loaded [(7, (hex 3 0x010203)), (2, (hex 3 0x010203))]) 0x0000000000170004 .ok 1 0
      [(7, (hex 3 0x010203))] = true := by
  decide +kernel

theorem test_ct_cmp_last_byte :
    runs (loaded [(3, (hex 3 0x010204)), (2, (hex 3 0x010203))]) 0x0000000000130004 .ok 0 0
      [] = true := by
  decide +kernel

/-! Hash family (95_test_vectors.md section 2.2). -/

theorem test_hash_sha256_empty :
    runs (loaded [(1, (hex 1 0x77))]) 0x0000000000000410 .ok 0 0
      [(1, (hex 32 0xe3b0c44298fc1c149afbf4c8996fb92427ae41e4649b934ca495991b7852b855))] = true := by
  decide +kernel

theorem test_hash_sha256_two_blocks :
    runs (loaded [(0, (hex 56 0x6162636462636465636465666465666765666768666768696768696a68696a6b696a6b6c6a6b6c6d6b6c6d6e6c6d6e6f6d6e6f706e6f7071))]) 0x0000000000000410 .ok 0 0
      [(1, (hex 32 0x248d6a61d20638b8e5c026930c3e6039a33ce45964ff2167f6ecedd419db06c1))] = true := by
  decide +kernel

theorem test_hash_sha384_two_blocks :
    runs (loaded [(0, (hex 112 0x61626364656667686263646566676869636465666768696a6465666768696a6b65666768696a6b6c666768696a6b6c6d6768696a6b6c6d6e68696a6b6c6d6e6f696a6b6c6d6e6f706a6b6c6d6e6f70716b6c6d6e6f7071726c6d6e6f707172736d6e6f70717273746e6f707172737475))]) 0x0000000000000510 .ok 0 0
      [(1, (hex 48 0x09330c33f71147e83d192fc782cd1b4753111b173b3b05d22fa08086e3b0f712fcc7c71a557e2db966c3e9fa91746039))] = true := by
  decide +kernel

theorem test_hash_sha512_two_blocks :
    runs (loaded [(0, (hex 112 0x61626364656667686263646566676869636465666768696a6465666768696a6b65666768696a6b6c666768696a6b6c6d6768696a6b6c6d6e68696a6b6c6d6e6f696a6b6c6d6e6f706a6b6c6d6e6f70716b6c6d6e6f7071726c6d6e6f707172736d6e6f70717273746e6f707172737475))]) 0x0000000000000610 .ok 0 0
      [(1, (hex 64 0x8e959b75dae313da8cf4f72814fc143f8f7779c6eb9f7fa17299aeadb6889018501d289e4900f7e4331b99dec4b5433ac7d329eeb6dd26545e96e55b874be909))] = true := by
  decide +kernel

theorem test_sha_compress_sha256 :
    runs (loaded [(4, (hex 32 0x6a09e667bb67ae853c6ef372a54ff53a510e527f9b05688c1f83d9ab5be0cd19)), (2, (hex 64 0x61626380000000000000000000000000000000000000000000000000000000000000000000000000000000000000000000000000000000000000000000000018))]) 0x0000000000141011 .ok 0 0
      [(4, (hex 32 0xba7816bf8f01cfea414140de5dae2223b00361a396177a9cb410ff61f20015ad))] = true := by
  decide +kernel

theorem test_sha_compress_sha384 :
    runs (loaded [(4, (hex 64 0xcbbb9d5dc1059ed8629a292a367cd5079159015a3070dd17152fecd8f70e593967332667ffc00b318eb44a8768581511db0c2e0d64f98fa747b5481dbefa4fa4)), (2, (hex 128 0x6162638000000000000000000000000000000000000000000000000000000000000000000000000000000000000000000000000000000000000000000000000000000000000000000000000000000000000000000000000000000000000000000000000000000000000000000000000000000000000000000000000000000018))]) 0x0000000000141111 .ok 0 0
      [(4, (hex 64 0xcb00753f45a35e8bb5a03d699ac65007272c32ab0eded1631a8b605a43ff5bed8086072ba1e7cc2358baeca134c825a7a303edfdf3b89cd70c66918ece57ba15))] = true := by
  decide +kernel

theorem test_sha_compress_sha512 :
    runs (loaded [(4, (hex 64 0x6a09e667f3bcc908bb67ae8584caa73b3c6ef372fe94f82ba54ff53a5f1d36f1510e527fade682d19b05688c2b3e6c1f1f83d9abfb41bd6b5be0cd19137e2179)), (2, (hex 128 0x6162638000000000000000000000000000000000000000000000000000000000000000000000000000000000000000000000000000000000000000000000000000000000000000000000000000000000000000000000000000000000000000000000000000000000000000000000000000000000000000000000000000000018))]) 0x0000000000141211 .ok 0 0
      [(4, (hex 64 0xddaf35a193617abacc417349ae20413112e6fa4e89a97ea20a9eeee64b55d39a2192992a274fc1a836ba3c23a3feebbd454d4423643ce80e2a9ac94fa54ca49f))] = true := by
  decide +kernel

theorem test_sha_compress_sha256_block_length :
    runs (loaded [(4, (rep 32 0x00)), (2, (rep 63 0x00)), (5, (hex 1 0x11))]) 0x0000000000141411 .badLength 0 2
      [(5, [])] = true := by
  decide +kernel

theorem test_sha_pad_sha256 :
    runs (loaded [(0, (rep 56 0x61))]) 0x0000000000000412 .ok 2 0
      [(1, (hex 128 0x61616161616161616161616161616161616161616161616161616161616161616161616161616161616161616161616161616161616161618000000000000000000000000000000000000000000000000000000000000000000000000000000000000000000000000000000000000000000000000000000000000000000001c0))] = true := by
  decide +kernel

theorem test_sha_pad_sha384 :
    runs (loaded [(0, (rep 111 0x61))]) 0x0000000000000512 .ok 1 0
      [(1, (hex 128 0x6161616161616161616161616161616161616161616161616161616161616161616161616161616161616161616161616161616161616161616161616161616161616161616161616161616161616161616161616161616161616161616161616161616161616161616161616161618000000000000000000000000000000378))] = true := by
  decide +kernel

theorem test_sha_pad_sha512 :
    runs (loaded [(0, (rep 112 0x61))]) 0x0000000000000612 .ok 2 0
      [(1, (hex 256 0x61616161616161616161616161616161616161616161616161616161616161616161616161616161616161616161616161616161616161616161616161616161616161616161616161616161616161616161616161616161616161616161616161616161616161616161616161616161800000000000000000000000000000000000000000000000000000000000000000000000000000000000000000000000000000000000000000000000000000000000000000000000000000000000000000000000000000000000000000000000000000000000000000000000000000000000000000000000000000000000000000000000000000000000000000000380))] = true := by
  decide +kernel

theorem test_sha_iv_sha256 :
    runs State.reset 0x0000000000001013 .ok 0 0
      [(4, (hex 32 0x6a09e667bb67ae853c6ef372a54ff53a510e527f9b05688c1f83d9ab5be0cd19))] = true := by
  decide +kernel

theorem test_sha_iv_sha384 :
    runs State.reset 0x0000000000001113 .ok 0 0
      [(4, (hex 64 0xcbbb9d5dc1059ed8629a292a367cd5079159015a3070dd17152fecd8f70e593967332667ffc00b318eb44a8768581511db0c2e0d64f98fa747b5481dbefa4fa4))] = true := by
  decide +kernel

theorem test_sha_iv_sha512 :
    runs State.reset 0x0000000000001213 .ok 0 0
      [(4, (hex 64 0x6a09e667f3bcc908bb67ae8584caa73b3c6ef372fe94f82ba54ff53a5f1d36f1510e527fade682d19b05688c2b3e6c1f1f83d9abfb41bd6b5be0cd19137e2179))] = true := by
  decide +kernel

/-! MAC and KDF family (95_test_vectors.md section 2.3; the values of HKDF for SHA384 and SHA512 by hand from R151, R154). -/

theorem test_hmac_sha256 :
    runs (loaded [(0, (hex 4 0x4a656665)), (1, (hex 28 0x7768617420646f2079612077616e7420666f72206e6f7468696e673f))]) 0x0000000000080820 .ok 0 0
      [(2, (hex 32 0x5bdcc146bf60754e6a042426089575c75a003f089d2739839dec58b964ec3843))] = true := by
  decide +kernel

theorem test_hkdf_extract_sha256 :
    runs (loaded [(0, (hex 4 0x4a656665)), (1, (hex 28 0x7768617420646f2079612077616e7420666f72206e6f7468696e673f))]) 0x0000000000080821 .ok 0 0
      [(2, (hex 32 0x5bdcc146bf60754e6a042426089575c75a003f089d2739839dec58b964ec3843))] = true := by
  decide +kernel

theorem test_hmac_sha384 :
    runs (loaded [(0, (hex 4 0x4a656665)), (1, (hex 28 0x7768617420646f2079612077616e7420666f72206e6f7468696e673f))]) 0x0000000000080920 .ok 0 0
      [(2, (hex 48 0xaf45d2e376484031617f78d2b58a6b1b9c7ef464f5a01b47e42ec3736322445e8e2240ca5e69e2c78b3239ecfab21649))] = true := by
  decide +kernel

theorem test_hkdf_extract_sha384 :
    runs (loaded [(0, (hex 4 0x4a656665)), (1, (hex 28 0x7768617420646f2079612077616e7420666f72206e6f7468696e673f))]) 0x0000000000080921 .ok 0 0
      [(2, (hex 48 0xaf45d2e376484031617f78d2b58a6b1b9c7ef464f5a01b47e42ec3736322445e8e2240ca5e69e2c78b3239ecfab21649))] = true := by
  decide +kernel

theorem test_hmac_sha512 :
    runs (loaded [(0, (hex 4 0x4a656665)), (1, (hex 28 0x7768617420646f2079612077616e7420666f72206e6f7468696e673f))]) 0x0000000000080a20 .ok 0 0
      [(2, (hex 64 0x164b7a7bfcf819e2e395fbe73b56e0a387bd64222e831fd610270cd7ea2505549758bf75c05a994a6d034f65f8f0e6fdcaeab1a34d4a6b4b636e070a38bce737))] = true := by
  decide +kernel

theorem test_hkdf_extract_sha512 :
    runs (loaded [(0, (hex 4 0x4a656665)), (1, (hex 28 0x7768617420646f2079612077616e7420666f72206e6f7468696e673f))]) 0x0000000000080a21 .ok 0 0
      [(2, (hex 64 0x164b7a7bfcf819e2e395fbe73b56e0a387bd64222e831fd610270cd7ea2505549758bf75c05a994a6d034f65f8f0e6fdcaeab1a34d4a6b4b636e070a38bce737))] = true := by
  decide +kernel

theorem test_hkdf_expand_sha256 :
    runs (loaded [(2, (hex 32 0x077709362c2e32df0ddc3f0dc47bba6390b6c73bb50f9c3122ec844ad7c2b3e5)), (4, (hex 10 0xf0f1f2f3f4f5f6f7f8f9))]) 0x0000002a00220c22 .ok 0 0
      [(3, (hex 42 0x3cb25f25faacd57a90434f64d0362f2a2d2d0a90cf1a5a4c5db02d56ecc4c5bf34007208d5b887185865))] = true := by
  decide +kernel

theorem test_hkdf_expand_sha256_limit :
    runs (loaded [(2, (hex 32 0x077709362c2e32df0ddc3f0dc47bba6390b6c73bb50f9c3122ec844ad7c2b3e5)), (3, (hex 1 0x55))]) 0x00001fe100220c22 .badImm 0 0
      [(3, [])] = true := by
  decide +kernel

theorem test_hkdf_expand_label_sha256 :
    runs (loaded [(2, (hex 32 0x33ad0a1c607ec03b09e6cd9893680ce210adf300aa1f2660e1b22e10f170f92a)), (5, (hex 7 0x64657269766564)), (6, (hex 32 0xe3b0c44298fc1c149afbf4c8996fb92427ae41e4649b934ca495991b7852b855))]) 0x0000002001aa0c23 .ok 0 0
      [(3, (hex 32 0x6f2615a108c702c5678f54fc9dbab69716c076189c48250cebeac3576c3611ba))] = true := by
  decide +kernel

theorem test_hkdf_expand_sha384 :
    runs (loaded [(2, (hex 48 0x704b39990779ce1dc548052c7dc39f303570dd13fb39f7acc564680bef80e8dec70ee9a7e1f3e293ef68eceb072a5ade)), (4, (hex 10 0xf0f1f2f3f4f5f6f7f8f9))]) 0x0000001400220d22 .ok 0 0
      [(3, (hex 20 0x9b5097a86038b805309076a44b3a9f38063e25b5))] = true := by
  decide +kernel

theorem test_hkdf_expand_sha384_limit :
    runs (loaded [(2, (hex 48 0x704b39990779ce1dc548052c7dc39f303570dd13fb39f7acc564680bef80e8dec70ee9a7e1f3e293ef68eceb072a5ade)), (3, (hex 1 0x55))]) 0x00002fd100220d22 .badImm 0 0
      [(3, [])] = true := by
  decide +kernel

theorem test_hkdf_expand_label_sha384 :
    runs (loaded [(2, (hex 48 0x704b39990779ce1dc548052c7dc39f303570dd13fb39f7acc564680bef80e8dec70ee9a7e1f3e293ef68eceb072a5ade)), (5, (hex 7 0x64657269766564)), (6, (hex 32 0xe3b0c44298fc1c149afbf4c8996fb92427ae41e4649b934ca495991b7852b855))]) 0x0000002001aa0d23 .ok 0 0
      [(3, (hex 32 0xd4da85a4a4f15d1044b8fa73f55dbe958e3b4da6baa12288f8114397533a8438))] = true := by
  decide +kernel

theorem test_hkdf_expand_sha512 :
    runs (loaded [(2, (hex 64 0x665799823737ded04a88e47e54a5890bb2c3d247c7a4254a8e61350723590a26c36238127d8661b88cf80ef802d57e2f7cebcf1e00e083848be19929c61b4237)), (4, (hex 10 0xf0f1f2f3f4f5f6f7f8f9))]) 0x0000001400220e22 .ok 0 0
      [(3, (hex 20 0x832390086cda71fb47625bb5ceb168e4c8e26a1a))] = true := by
  decide +kernel

theorem test_hkdf_expand_sha512_limit :
    runs (loaded [(2, (hex 64 0x665799823737ded04a88e47e54a5890bb2c3d247c7a4254a8e61350723590a26c36238127d8661b88cf80ef802d57e2f7cebcf1e00e083848be19929c61b4237)), (3, (hex 1 0x55))]) 0x00003fc100220e22 .badImm 0 0
      [(3, [])] = true := by
  decide +kernel

theorem test_hkdf_expand_label_sha512 :
    runs (loaded [(2, (hex 64 0x665799823737ded04a88e47e54a5890bb2c3d247c7a4254a8e61350723590a26c36238127d8661b88cf80ef802d57e2f7cebcf1e00e083848be19929c61b4237)), (5, (hex 7 0x64657269766564)), (6, (hex 32 0xe3b0c44298fc1c149afbf4c8996fb92427ae41e4649b934ca495991b7852b855))]) 0x0000002001aa0e23 .ok 0 0
      [(3, (hex 32 0x383e894260b8db215bbca7a81157d6787583c7480fbbadd42d09e0669fa9426a))] = true := by
  decide +kernel

/-! AES family (96_test_vectors_families.md section 2.4). -/

theorem test_aes_keyexp :
    runs (loaded [(0, (hex 16 0x2b7e151628aed2a6abf7158809cf4f3c))]) 0x0000000000000430 .ok 0 0
      [(1, (hex 176 0x2b7e151628aed2a6abf7158809cf4f3ca0fafe1788542cb123a339392a6c7605f2c295f27a96b9435935807a7359f67f3d80477d4716fe3e1e237e446d7a883bef44a541a8525b7fb671253bdb0bad00d4d1c6f87c839d87caf2b8bc11f915bc6d88a37a110b3efddbf98641ca0093fd4e54f70e5f5fc9f384a64fb24ea6dc4fead27321b58dbad2312bf5607f8d292fac7766f319fadc2128d12941575c006ed014f9a8c9ee2589e13f0cc8b6630ca6))] = true := by
  decide +kernel

theorem test_aes_enc :
    runs (loaded [(0, (hex 16 0x000102030405060708090a0b0c0d0e0f)), (2, (hex 16 0x00112233445566778899aabbccddeeff))]) 0x0000000000100c31 .ok 0 0
      [(3, (hex 16 0x69c4e0d86a7b0430d8cdb78070b4c55a))] = true := by
  decide +kernel

theorem test_aes_enc_key_length :
    runs (loaded [(3, (hex 1 0x11)), (0, (rep 15 0x00)), (2, (rep 16 0x00))]) 0x0000000000100c31 .badLength 0 1
      [(3, [])] = true := by
  decide +kernel

theorem test_gf128_mul :
    runs (loaded [(0, (hex 16 0x0388dace60b6a392f328c2b971b2fe78)), (1, (hex 16 0x66e94bd4ef8a2c3b884cfa59ca342b2e))]) 0x0000000000080832 .ok 0 0
      [(2, (hex 16 0x5e2ec746917062882c85b0685353deb7))] = true := by
  decide +kernel

theorem test_ghash :
    runs (loaded [(0, (hex 16 0xb83b533708bf535d0aa6e52980d53b78)), (1, (hex 20 0xfeedfacedeadbeeffeedfacedeadbeefabaddad2)), (2, (hex 60 0x42831ec2217774244b7221b784d0d49ce3aa212f2c02a4e035c17e2329aca12e21d514b25466931c7d8f6a5aac84aa051ba30b396a0aac973d58e091))]) 0x0000000000880c33 .ok 0 0
      [(3, (hex 16 0x698e57f70e6ecc7fd9463b7260a9ae5f))] = true := by
  decide +kernel

theorem test_aes_ctr_wraps :
    runs (loaded [(0, (rep 16 0x00)), (1, (rep 16 0xff)), (2, (rep 32 0x00))]) 0x0000000000880c34 .ok 0 0
      [(3, (hex 32 0x3f5b8cc9ea855a0afa7347d23e8d664e123c1f4af313ad8c2ce648b2e71fb6e1))] = true := by
  decide +kernel

theorem test_gcm_enc :
    runs (loaded [(0, (hex 16 0xfeffe9928665731c6d6a8f9467308308)), (1, (hex 12 0xcafebabefacedbaddecaf888)), (2, (hex 20 0xfeedfacedeadbeeffeedfacedeadbeefabaddad2)), (3, (hex 60 0xd9313225f88406e5a55909c5aff5269a86a7a9531534f7da2e4c303d8a318a721c3c0c95956809532fcf0e2449a6b525b16aedf5aa0de657ba637b39))]) 0x000000000688b035 .ok 0 0
      [(4, (hex 60 0x42831ec2217774244b7221b784d0d49ce3aa212f2c02a4e035c17e2329aca12e21d514b25466931c7d8f6a5aac84aa051ba30b396a0aac973d58e091)), (5, (hex 16 0x5bc94fbc3221a5db94fae95ae7121a47))] = true := by
  decide +kernel

theorem test_gcm_enc_alias :
    runs (loaded [(0, (hex 16 0xfeffe9928665731c6d6a8f9467308308)), (1, (hex 12 0xcafebabefacedbaddecaf888)), (4, (hex 1 0x44))]) 0x0000000006889035 .operandAlias 0 0
      [(4, (hex 1 0x44))] = true := by
  decide +kernel

theorem test_gcm_dec :
    runs (loaded [(0, (hex 16 0xfeffe9928665731c6d6a8f9467308308)), (1, (hex 12 0xcafebabefacedbaddecaf888)), (2, (hex 20 0xfeedfacedeadbeeffeedfacedeadbeefabaddad2)), (4, (hex 60 0x42831ec2217774244b7221b784d0d49ce3aa212f2c02a4e035c17e2329aca12e21d514b25466931c7d8f6a5aac84aa051ba30b396a0aac973d58e091)), (5, (hex 16 0x5bc94fbc3221a5db94fae95ae7121a47))]) 0x0000000058881836 .ok 0 0
      [(6, (hex 60 0xd9313225f88406e5a55909c5aff5269a86a7a9531534f7da2e4c303d8a318a721c3c0c95956809532fcf0e2449a6b525b16aedf5aa0de657ba637b39))] = true := by
  decide +kernel

theorem test_gcm_dec_tampered :
    runs (loaded [(0, (hex 16 0xfeffe9928665731c6d6a8f9467308308)), (1, (hex 12 0xcafebabefacedbaddecaf888)), (2, (hex 20 0xfeedfacedeadbeeffeedfacedeadbeefabaddad2)), (4, (hex 60 0x42831ec2217774244b7221b784d0d49ce3aa212f2c02a4e035c17e2329aca12e21d514b25466931c7d8f6a5aac84aa051ba30b396a0aac973d58e091)), (5, (hex 16 0x5bc94fbc3221a5db94fae95ae7121a46)), (6, (hex 4 0x11223344))]) 0x0000000058881836 .authFail 0 0
      [(6, [])] = true := by
  decide +kernel

/-! ChaCha20 and Poly1305 family (96_test_vectors_families.md section 2.5). -/

theorem test_chacha20_block :
    runs (loaded [(0, (hex 32 0x000102030405060708090a0b0c0d0e0f101112131415161718191a1b1c1d1e1f)), (1, (hex 12 0x000000090000004a00000000))]) 0x0000000100080840 .ok 0 0
      [(2, (hex 64 0x10f1e7e4d13b5915500fdd1fa32071c4c7d1f4c733c068030422aa9ac3d46c4ed2826446079faa0914c2d705d98b02a2b5129cd1de164eb9cbd083e8a2503c4e))] = true := by
  decide +kernel

theorem test_chacha20_xor :
    runs (loaded [(0, (hex 32 0x000102030405060708090a0b0c0d0e0f101112131415161718191a1b1c1d1e1f)), (1, (hex 12 0x000000000000004a00000000)), (3, (hex 114 0x4c616469657320616e642047656e746c656d656e206f662074686520636c617373206f66202739393a204966204920636f756c64206f6666657220796f75206f6e6c79206f6e652074697020666f7220746865206675747572652c2073756e73637265656e20776f756c642062652069742e))]) 0x0000000100c81041 .ok 0 0
      [(4, (hex 114 0x6e2e359a2568f98041ba0728dd0d6981e97e7aec1d4360c20a27afccfd9fae0bf91b65c5524733ab8f593dabcd62b3571639d624e65152ab8f530c359f0861d807ca0dbf500d6a6156a38e088a22b65e52bc514d16ccf806818ce91ab77937365af90bbf74a35be6b40b8eedf2785e42874d))] = true := by
  decide +kernel

theorem test_poly1305 :
    runs (loaded [(0, (hex 32 0x85d6be7857556d337f4452fe42d506a80103808afb0db2fd4abff6af4149f51b)), (1, (hex 34 0x43727970746f6772617068696320466f72756d2052657365617263682047726f7570))]) 0x0000000000080842 .ok 0 0
      [(2, (hex 16 0xa8061dc1305136c6c22b8baf0c0127a9))] = true := by
  decide +kernel

theorem test_poly1305_reduces :
    runs (loaded [(0, (hex 32 0x02000000000000000000000000000000ffffffffffffffffffffffffffffffff)), (1, (hex 16 0x02000000000000000000000000000000))]) 0x0000000000080842 .ok 0 0
      [(2, (hex 16 0x03000000000000000000000000000000))] = true := by
  decide +kernel

theorem test_ccp_enc :
    runs (loaded [(0, (hex 32 0x808182838485868788898a8b8c8d8e8f909192939495969798999a9b9c9d9e9f)), (1, (hex 12 0x070000004041424344454647)), (2, (hex 12 0x50515253c0c1c2c3c4c5c6c7)), (3, (hex 114 0x4c616469657320616e642047656e746c656d656e206f662074686520636c617373206f66202739393a204966204920636f756c64206f6666657220796f75206f6e6c79206f6e652074697020666f7220746865206675747572652c2073756e73637265656e20776f756c642062652069742e))]) 0x000000000688b043 .ok 0 0
      [(4, (hex 114 0xd31a8d34648e60db7b86afbc53ef7ec2a4aded51296e08fea9e2b5a736ee62d63dbea45e8ca9671282fafb69da92728b1a71de0a9e060b2905d6a5b67ecd3b3692ddbd7f2d778b8c9803aee328091b58fab324e4fad675945585808b4831d7bc3ff4def08e4b7a9de576d26586cec64b6116)), (5, (hex 16 0x1ae10b594f09e26a7e902ecbd0600691))] = true := by
  decide +kernel

theorem test_ccp_dec :
    runs (loaded [(0, (hex 32 0x808182838485868788898a8b8c8d8e8f909192939495969798999a9b9c9d9e9f)), (1, (hex 12 0x070000004041424344454647)), (2, (hex 12 0x50515253c0c1c2c3c4c5c6c7)), (4, (hex 114 0xd31a8d34648e60db7b86afbc53ef7ec2a4aded51296e08fea9e2b5a736ee62d63dbea45e8ca9671282fafb69da92728b1a71de0a9e060b2905d6a5b67ecd3b3692ddbd7f2d778b8c9803aee328091b58fab324e4fad675945585808b4831d7bc3ff4def08e4b7a9de576d26586cec64b6116)), (5, (hex 16 0x1ae10b594f09e26a7e902ecbd0600691))]) 0x0000000058881844 .ok 0 0
      [(6, (hex 114 0x4c616469657320616e642047656e746c656d656e206f662074686520636c617373206f66202739393a204966204920636f756c64206f6666657220796f75206f6e6c79206f6e652074697020666f7220746865206675747572652c2073756e73637265656e20776f756c642062652069742e))] = true := by
  decide +kernel

theorem test_ccp_dec_tag_length :
    runs (loaded [(0, (hex 32 0x808182838485868788898a8b8c8d8e8f909192939495969798999a9b9c9d9e9f)), (1, (hex 12 0x070000004041424344454647)), (2, (hex 12 0x50515253c0c1c2c3c4c5c6c7)), (4, (hex 114 0xd31a8d34648e60db7b86afbc53ef7ec2a4aded51296e08fea9e2b5a736ee62d63dbea45e8ca9671282fafb69da92728b1a71de0a9e060b2905d6a5b67ecd3b3692ddbd7f2d778b8c9803aee328091b58fab324e4fad675945585808b4831d7bc3ff4def08e4b7a9de576d26586cec64b6116)), (5, (rep 17 0x00)), (6, (hex 1 0x11))]) 0x0000000058881844 .badLength 0 5
      [(6, [])] = true := by
  decide +kernel

/-! X25519 family (96_test_vectors_families.md section 2.6). -/

theorem test_x25519 :
    runs (loaded [(0, (hex 32 0xa546e36bf0527c9d3b16154b82465edd62144c0ac1fc5a18506a2244ba449ac4)), (1, (hex 32 0xe6db6867583030db3594c1a424b15f7c726624ec26b3353b10a903a6d0ab1c4c))]) 0x0000000000080850 .ok 0 0
      [(2, (hex 32 0xc3da55379de9c6908e94ea4df28d084f32eccf03491c71f754b4075577a28552))] = true := by
  decide +kernel

theorem test_x25519_base :
    runs (loaded [(0, (hex 32 0x77076d0a7318a57d3c16c17251b26645df4c2f87ebc0992ab177fba51db92c2a))]) 0x0000000000000851 .ok 0 0
      [(2, (hex 32 0x8520f0098930a754748b7ddcb43ef75a0dbf3a0d26381af4eba4a98eaa9b4e6a))] = true := by
  decide +kernel

theorem test_gf_mul_uses_all_bits :
    runs (loaded [(0, (rep 32 0xff)), (1, (hex 32 0x0100000000000000000000000000000000000000000000000000000000000000))]) 0x0000000000080852 .ok 0 0
      [(2, (hex 32 0x2500000000000000000000000000000000000000000000000000000000000000))] = true := by
  decide +kernel

theorem test_gf_inv :
    runs (loaded [(0, (hex 32 0x0900000000000000000000000000000000000000000000000000000000000000))]) 0x0000000000000853 .ok 0 0
      [(2, (hex 32 0x12c7711cc7711cc7711cc7711cc7711cc7711cc7711cc7711cc7711cc7711c47))] = true := by
  decide +kernel

theorem test_ladder_ignores_bit_255 :
    runs (loaded [(0, (hex 32 0x0100000000000000000000000000000000000000000000000000000000000080)), (1, (hex 32 0x0900000000000000000000000000000000000000000000000000000000000000))]) 0x0000000000086854 .ok 0 0
      [(2, (hex 32 0x000000004008fa478a142d2e2a00000000000000000000000000000000000000)), (3, (hex 32 0x000000004056ff07ba1eccaf0400000000000000000000000000000000000000))] = true := by
  decide +kernel

theorem test_ladder_point_length :
    runs (loaded [(0, (rep 32 0x00)), (1, (rep 33 0x00)), (2, (hex 1 0x22)), (3, (hex 1 0x33))]) 0x0000000000086854 .badLength 0 2
      [(2, []), (3, [])] = true := by
  decide +kernel

/-! DER family (96_test_vectors_families.md section 2.7). -/

theorem test_der_parse :
    runs (loaded [(0, (hex 8 0x3006020105040141))]) 0x0000000000000460 .ok 3 0
      [(1, (hex 48 0x000100000000001000000002000000060000010000000002000000040000000100000100000000040000000700000001))] = true := by
  decide +kernel

theorem test_der_parse_truncated :
    runs (loaded [(0, (hex 7 0x30060201050401)), (1, (hex 1 0x77))]) 0x0000000000000460 .parseError 0 0
      [(1, [])] = true := by
  decide +kernel

/-! Certificate family (96_test_vectors_families.md section 2.8), with certificate A in entry 0 and the record of
certificate B in entry 1. -/

theorem test_cert_parse : (match step ((loaded [(0, certificateA)]).withFetchWord 64 0x0000000000000070) with
    | .next t => t.result == .ok && t.retval == 3 && t.cert 0 == some recordA && t.cert 1 == none
    | _ => false) = true := by
  decide +kernel

theorem test_cert_parse_prefix : (match step ((withCerts [(0, certificateA.take 325)]).withFetchWord 64 0x0000000000000070) with
    | .next t => t.result == .parseError && t.retval == 0 && t.cert 0 == none && t.cert 1 == some recordB
    | _ => false) = true := by
  decide +kernel

theorem test_cert_field_subject :
    runs (withCerts []) 0x0000010300000c71 .ok 3 0
      [(3, (hex 66 0x000000035504030000000f6f6c642e6578616d706c652e6f72670000000355040a000000034f7267000000035504030000000f7777772e4578616d706c652e4f5247))] = true := by
  decide +kernel

theorem test_cert_field_imm_before_index :
    runs (withCerts []) 0x0000140e00000c71 .badImm 0 0
      [] = true := by
  decide +kernel

theorem test_cert_san :
    runs (withCerts []) 0x0000000000000c72 .ok 0x80000002 0
      [(3, (hex 32 0x0000000b6578616d706c652e636f6d0000000d2a2e6578616d706c652e636f6d))] = true := by
  decide +kernel

theorem test_cert_san_absent :
    runs (withCerts [(3, (hex 1 0x33))]) 0x0000000100000c72 .ok 0 0
      [(3, [])] = true := by
  decide +kernel

theorem test_cert_bc :
    runs (withCerts []) 0x0000000000000073 .ok 0x107 0
      [] = true := by
  decide +kernel

theorem test_cert_ku :
    runs (withCerts []) 0x0000000000000074 .ok 0x10061 0
      [] = true := by
  decide +kernel

theorem test_cert_hostname_san :
    runs (withCerts [(0, (hex 15 0x666f6f2e4558414d504c452e636f6d))]) 0x0000000000000075 .ok 1 0
      [] = true := by
  decide +kernel

theorem test_cert_hostname_last_cn :
    runs (withCerts [(0, (hex 15 0x7777772e6578616d706c652e6f7267))]) 0x0000000100000075 .ok 1 0
      [] = true := by
  decide +kernel

theorem test_hostname_match :
    runs (loaded [(0, (hex 15 0x666f6f2e6578616d706c652e636f6d)), (1, (hex 13 0x2a2e6578616d706c652e636f6d))]) 0x0000000000080076 .ok 1 0
      [] = true := by
  decide +kernel

theorem test_hostname_match_one_label :
    runs (loaded [(0, (hex 15 0x612e622e6578616d706c652e636f6d)), (1, (hex 13 0x2a2e6578616d706c652e636f6d))]) 0x0000000000080076 .ok 0 0
      [] = true := by
  decide +kernel

theorem test_cert_validity_last_second :
    runs (withCerts [(0, (hex 8 0x000000007861f800))]) 0x0000000000000077 .ok 1 0
      [] = true := by
  decide +kernel

theorem test_cert_validity_after :
    runs (withCerts [(0, (hex 8 0x000000007861f801))]) 0x0000000000000077 .ok 0 0
      [] = true := by
  decide +kernel

theorem test_chain_validate :
    runs (withCerts [(0, (hex 8 0x00000000684ee180))]) 0x0000000200000078 .ok 0 0
      [] = true := by
  decide +kernel

theorem test_chain_validate_missing :
    runs (withCerts [(0, (hex 8 0x00000000684ee180))]) 0x0000000300000078 .validationFail 3 1
      [] = true := by
  decide +kernel

theorem test_ts_add : (match step ((loaded [(0, hex 1 0x78)]).withFetchWord 64 0x0000000000000079) with
    | .next t => t.result == .ok && t.retval == 1 && t.ts == [hex 32 0x2d711642b726b04401627ca9fbac32f5c8530fb1903cc4db02258717921a4881]
    | _ => false) = true := by
  decide +kernel

theorem test_ts_query :
    runs { withCerts [] with ts := [hex 32 0xb2c8863ca4a3ae5bdc1e123d4cb3703ca5a5588f59806f48942602dffa6bfccc] }
      0x000000000000007a .ok 1 0 [] = true := by
  decide +kernel

theorem test_ocsp_check_revoked :
    runs (withCerts [(0, (hex 8 0x00000000684ee180)), (1, (hex 13 0x02123401000000000000000000))]) 0x000000000008007b .validationFail 6 0
      [] = true := by
  decide +kernel

theorem test_ocsp_check_good :
    runs (withCerts [(0, (hex 8 0x00000000684ee180)), (1, (hex 13 0x021234000100000000684ee180))]) 0x000000000008007b .ok 1 0
      [] = true := by
  decide +kernel

/-! Words that are no command (95_test_vectors.md section 2.9). -/

theorem test_illegal_variant_keeps_slots :
    runs (loaded [(3, (hex 4 0x6b656570))]) 0x0000000000000f10 .illegalCmd 0 0
      [(3, (hex 4 0x6b656570))] = true := by
  decide +kernel

theorem test_illegal_before_alias :
    runs State.reset 0x0000000016889035 .illegalCmd 0 0
      [] = true := by
  decide +kernel

/-! Witnesses: for every statement with hypotheses, a concrete state and operands that meet them, for each clause
and at the bounds of its ranges. A bound that is one of the open parameters (log 4) is met by a list of that length. -/

/-- The state after reset with these turns to come. -/
def turns (l : List Turn) : State := { State.reset with schedule := l }

/-- The state after reset with the word `w` issued and the core's turn next. -/
def issued (w : Word64) : State := { State.reset with cmdReg := w, cmdHi := w.extractLsb' 32 32, busy := true }

/-- The state after reset with slot 0 one byte longer than SLOT_MAX. -/
def tooLong : State := loaded [(0, rep (Config.slotMax + 1) 0)]

theorem length_rep (n : Nat) (b : Byte) : (rep n b).length = n := List.length_replicate

theorem length_tooLong : (tooLong.slot 0).length = Config.slotMax + 1 := by
  simp only [tooLong, loaded, State.setSlots_cons, State.setSlots_nil, State.slot_setSlot_same, length_rep]

theorem slotMax_large (n : Nat) (h : n ≤ 1048576) : n ≤ Config.slotMax := h.trans slotMax_bounds.1

theorem witness_EncodeDecode : ∃ i, decode 0x0000002A00080822#64 = .ok i := ⟨.hkdfExpandSha256 2 0 1 42, by decide⟩

theorem witness_LegalWords :
    (Fields.ofWord 0x0000000000000710#64).wellFormed = false ∧ (issued 0x0000000000000710#64).busy = true := by decide

theorem witness_StepRunsDecoded :
    (issued 0x410#64).busy = true ∧ decode (issued 0x410#64).cmdReg = .ok (.hashSha256 1 0) ∧
      (issued 0x410#64).schedule = [] ∧ ({ issued 0x410#64 with schedule := [.core] } : State).schedule = [.core] ∧
      (issued 0x710#64).busy = true ∧ (∀ i, decode (issued 0x710#64).cmdReg ≠ .ok i) ∧
      State.reset.busy = false ∧ State.reset.schedule = [] ∧ (turns [.core]).schedule = [.core] := by
  refine ⟨by decide, by decide, by decide, by decide, by decide, fun i h => ?_, by decide, by decide, by decide⟩
  have h1 : decode (issued 0x710#64).cmdReg = .error .reservedVariant := by decide
  rw [h1] at h
  cases h

theorem witness_InvariantKept : (issued 0).Inv ∧ ∃ t, step (issued 0) = .next t := by
  refine ⟨?_, _, rfl⟩
  constructor <;> simp [issued, State.reset, State.slot, tsWf]
  intro idx r h
  simp only [State.cert, Vector.getElem?_replicate] at h
  split at h <;> cases h

theorem witness_ResetTransaction :
    ({ issued 0 with schedule := [.host .reset] } : State).schedule = .host .reset :: [] := rfl

theorem witness_CsrReads :
    (turns [.host (.csrRead 0)]).schedule = .host (.csrRead 0) :: [] ∧
      (turns [.host (.csrRead 1)]).schedule = .host (.csrRead 1) :: [] ∧
      (turns [.host (.csrRead 2)]).schedule = .host (.csrRead 2) :: [] ∧
      (turns [.host (.csrRead 3)]).schedule = .host (.csrRead 3) :: [] ∧
      (turns [.host (.csrRead 4)]).schedule = .host (.csrRead 4) :: [] ∧
      (turns [.host (.csrRead 5)]).schedule = .host (.csrRead 5) :: [] ∧ 4 < (5 : Word32).toNat := by decide

theorem witness_SlotWriteThenRead :
    (turns [.host (.slotWrite 2 [1]), .host (.slotRead 2)]).busy = false ∧ ([1] : Bytes).length ≤ Config.slotMax :=
  ⟨rfl, slotMax_large _ (by decide)⟩

theorem witness_TooLongSlotWriteStops :
    Config.slotMax < (rep (Config.slotMax + 1) 0).length ∧
      (turns [.host (.slotWrite 0 (rep (Config.slotMax + 1) 0))]).schedule =
        .host (.slotWrite 0 (rep (Config.slotMax + 1) 0)) :: [] := by
  rw [length_rep]
  refine ⟨Nat.lt_add_one _, ?_⟩
  simp only [turns]

theorem witness_CsrWrites :
    (turns [.host (.csrWrite 0 5)]).busy = false ∧ (turns [.host (.csrWrite 1 5)]).busy = false ∧
      (turns [.host (.csrWrite 2 5)]).busy = false ∧ 2 ≤ (2 : Word32).toNat := by decide

theorem witness_BusyWindow :
    (issued 0).busy = true ∧ ([] : Bytes).length ≤ Config.slotMax := ⟨rfl, slotMax_large _ (by decide)⟩

theorem witness_ProtoSticky :
    (∃ t, step ({ issued 0 with proto := true } : State) = .next t) ∧
      ∃ t, step { issued 0 with schedule := [.host (.slotRead 0)] } = .next t ∧ t.proto = true := ⟨⟨_, rfl⟩, _, rfl, rfl⟩

theorem witness_CommandCycle :
    decode ((0x2A : Word32) ++ (0x00080822 : Word32)) = .ok (.hkdfExpandSha256 2 0 1 42) ∧
      (turns [.host (.csrWrite 1 0x2A), .host (.csrWrite 0 0x00080822), .core]).busy = false := by decide

theorem witness_FailureEffects :
    (∃ t, exec (.aesKeyexp 1 0) (loaded [(1, [1])]) = .next t ∧ t.result ≠ .ok) ∧
      (∃ t, exec (.ladder 1 1 0 0) (loaded [(1, [1])]) = .next t ∧ t.result ≠ .ok) ∧
      ∃ t, exec (.certParse 0 1) (withCerts []) = .next t ∧ t.result ≠ .ok := by
  refine ⟨⟨_, rfl, by decide⟩, ⟨_, rfl, by decide⟩, ⟨_, rfl, by decide +kernel⟩⟩

theorem witness_SuccessFrame :
    (∃ t, exec (.slotCopy 1 0) (loaded [(0, [1])]) = .next t ∧ t.result = .ok) ∧
      ∃ t, exec (.tsAdd 0) State.reset = .next t ∧ t.result = .ok := by
  refine ⟨⟨_, rfl, rfl⟩, ⟨_, rfl, by decide +kernel⟩⟩

theorem witness_ChecksIgnoreContent :
    (∀ j, ((loaded [(0, [1])]).slot j).length = ((loaded [(0, [2])]).slot j).length) ∧
      (∀ k, ((loaded [(0, [1])]).cert k).isSome = ((loaded [(0, [2])]).cert k).isSome) ∧
      (∃ t, exec (.aesKeyexp 1 0) (loaded [(0, [1])]) = .next t ∧ t.result = .badLength) ∧
      ∃ t, exec (.aesKeyexp 1 0) (loaded [(0, [2])]) = .next t ∧ t.result = .badLength :=
  ⟨by decide, fun _ => rfl, ⟨_, rfl, by decide⟩, ⟨_, rfl, by decide⟩⟩

theorem witness_SystemCommands :
    ((loaded [(0, [1])]).slot 0).length ≤ Config.slotMax ∧
      ((loaded [(0, [1])]).slot 0).length + ((loaded [(0, [1])]).slot 1).length ≤ Config.slotMax ∧
      Config.slotMax < (tooLong.slot 0).length + (tooLong.slot 1).length := by
  rw [length_tooLong]
  exact ⟨slotMax_large _ (by decide), slotMax_large _ (by decide), by omega⟩

theorem witness_PaddingRule : ([] : Bytes).length ≤ Config.slotMax := slotMax_large _ (by decide)

theorem paddedLen_exceeds (n : Nat) :
    n < blockLen .sha256 * ((n + 1 + lengthField .sha256) / blockLen .sha256 + 1) := by
  simp only [blockLen, lengthField]
  omega

theorem witness_PadCommands :
    ((loaded [(0, rep 56 1)]).slot 0).length = 56 ∧
      blockLen .sha256 * ((56 + lengthField .sha256) / blockLen .sha256 + 1) ≤ Config.slotMax ∧
      ∃ n, (tooLong.slot 0).length = n ∧
        Config.slotMax < blockLen .sha256 * ((n + lengthField .sha256) / blockLen .sha256 + 1) :=
  ⟨by decide, slotMax_large _ (by decide), _, length_tooLong, paddedLen_exceeds _⟩

theorem witness_CompressCommands :
    ((loaded [(0, rep 32 1)]).slot 0).length = stateLen .sha256 ∧
      ((loaded [(1, rep 64 1)]).slot 1).length = blockLen .sha256 ∧
      ((loaded [(0, rep 64 1)]).slot 0).length = stateLen .sha384 ∧
      ((loaded [(1, rep 128 1)]).slot 1).length = blockLen .sha512 ∧
      ((loaded [(0, rep 31 1)]).slot 0).length ≠ stateLen .sha256 ∧
      ((loaded [(1, rep 63 1)]).slot 1).length ≠ blockLen .sha256 := by decide

theorem witness_MessageSchedule : (rep 64 1).length = 64 ∧ (rep 128 1).length = 128 := by decide

theorem witness_HmacCommands :
    ((loaded [(0, rep 64 1)]).slot 0).length ≤ blockLen .sha256 ∧
      blockLen .sha256 < ((loaded [(0, rep 65 1)]).slot 0).length := by decide

theorem witness_ExpandCommands :
    (8160 : Word32).toNat ≤ 255 * hashLen .sha256 ∧ 255 * hashLen .sha256 < (8161 : Word32).toNat := by decide

theorem witness_ExpandRecurrence : 41 ≤ 42 := by decide

theorem witness_ExpandLabelCommands :
    (16320 : Word32).toNat ≤ 255 * hashLen .sha512 ∧ 255 * hashLen .sha512 < (16321 : Word32).toNat ∧
      (rep 249 1).length ≤ 249 ∧ 249 < (rep 250 1).length ∧ (rep 255 1).length ≤ 255 ∧ 255 < (rep 256 1).length := by
  simp only [length_rep]
  decide

/-- Keys of 16 and 32 bytes, an IV of 12 bytes, a tag of 16 bytes. -/
def keyed : State := loaded [(0, rep 16 1), (1, rep 12 2), (2, [3]), (3, [4]), (4, rep 32 5), (5, rep 16 6)]

theorem witness_AesCommands :
    (keyed.slot 0).length = 16 ∧ (keyed.slot 5).length = 16 ∧ (keyed.slot 1).length ≠ 16 := by decide

theorem witness_KeySchedule : (rep 16 1).length = 16 := by decide

theorem witness_Gf128 : (rep 16 1).length = 16 ∧ (rep 16 2).length = 16 ∧ (rep 16 3).length = 16 := by decide

theorem witness_CounterMode : 0 < ([1] : Bytes).length ∧ (rep 16 0xff).length = 16 := by decide

theorem witness_GcmEncrypts :
    (4 : Slot) ≠ 5 ∧ (keyed.slot 0).length = 16 ∧ (keyed.slot 1).length = 12 ∧ (keyed.slot 4).length ≠ 16 ∧
      (keyed.slot 0).length ≠ 12 := by decide

theorem witness_GcmDecrypts :
    (∃ s : State, (s.slot 0).length = 16 ∧ (s.slot 1).length = 12 ∧ (s.slot 5).length = 16 ∧
      xorBytes (ghash (aes (s.slot 0) (zeros 16)) (s.slot 2) (s.slot 4)) (aes (s.slot 0) (s.slot 1 ++ [0, 0, 0, 1])) =
        s.slot 5) ∧
      xorBytes (ghash (aes (keyed.slot 0) (zeros 16)) (keyed.slot 2) (keyed.slot 4))
        (aes (keyed.slot 0) (keyed.slot 1 ++ [0, 0, 0, 1])) ≠ keyed.slot 5 := by
  refine ⟨⟨loaded [(0, rep 16 0), (1, rep 12 0), (5, hex 16 0x58e2fccefa7e3061367f1d57a4e7455a)], ?_⟩, ?_⟩ <;>
    decide +kernel

theorem witness_GcmRoundTrip :
    ∃ s', exec (.gcmEnc 6 7 0 1 2 3) keyed = .next s' ∧ (zeros 16).length = 16 ∧ zeros 16 ≠ s'.slot 7 :=
  ⟨_, rfl, by decide, by decide +kernel⟩

theorem witness_ChaChaCommands :
    (keyed.slot 4).length = 32 ∧ (keyed.slot 1).length = 12 ∧ (keyed.slot 0).length ≠ 32 ∧ (keyed.slot 0).length ≠ 12 := by
  decide

theorem witness_ChaChaKeystream : (rep 32 1).length = 32 ∧ (rep 12 1).length = 12 ∧ 0 < ([1] : Bytes).length := by decide

theorem witness_CcpCommands :
    (∃ s : State, (s.slot 0).length = 32 ∧ (s.slot 1).length = 12 ∧ (s.slot 5).length = 16 ∧
      poly1305 ((chachaBlock (s.slot 0) (s.slot 1) 0).take 32)
        (pad16 (s.slot 2) ++ pad16 (s.slot 4) ++ toLe (s.slot 2).length 8 ++ toLe (s.slot 4).length 8) = s.slot 5) ∧
      (keyed.slot 5).length = 16 ∧ (keyed.slot 0).length ≠ 32 ∧ (keyed.slot 2).length ≠ 16 ∧
      poly1305 ((chachaBlock (keyed.slot 4) (keyed.slot 1) 0).take 32)
        (pad16 (keyed.slot 2) ++ pad16 (keyed.slot 3) ++ toLe (keyed.slot 2).length 8 ++ toLe (keyed.slot 3).length 8) ≠
        keyed.slot 5 := by
  refine ⟨⟨loaded [(0, rep 32 0), (1, rep 12 0), (5, hex 16 0x4eb972c9a8fb3a1b382bb4d36f5ffad1)], ?_⟩, ?_⟩ <;>
    decide +kernel

theorem witness_CcpRoundTrip :
    ∃ s', exec (.ccpEnc 6 7 4 1 2 3) keyed = .next s' ∧ (zeros 16).length = 16 ∧ zeros 16 ≠ s'.slot 7 :=
  ⟨_, rfl, by decide, by decide +kernel⟩

theorem witness_X25519Commands :
    ((loaded [(0, rep 32 1), (1, rep 31 1)]).slot 0).length = 32 ∧
      ((loaded [(0, rep 32 1), (1, rep 31 1)]).slot 1).length ≠ 32 ∧ (2 : Slot) ≠ 3 := by decide

theorem witness_X25519Composition :
    (loaded [(0, clampScalar (rep 32 0xff)), (1, toLe (le (rep 32 0xff) % 2 ^ 255) 32)]).slot 0 = clampScalar (rep 32 0xff) ∧
      (loaded [(0, clampScalar (rep 32 0xff)), (1, toLe (le (rep 32 0xff) % 2 ^ 255) 32)]).slot 1 =
        toLe (le (rep 32 0xff) % 2 ^ 255) 32 ∧ (rep 32 0xff).length = 32 ∧ (2 : Slot) ≠ 3 :=
  ⟨rfl, rfl, by decide, by decide⟩

theorem witness_DerParseCommand :
    (∃ es, parseDer (hex 8 0x3006020105040141) = some es) ∧ parseDer (hex 7 0x30060201050401) = none :=
  ⟨⟨_, rfl⟩, rfl⟩

theorem witness_DerTreeIsFaithful : ∃ es, parseDer certificateA = some es :=
  Option.isSome_iff_exists.mp (by decide +kernel)

theorem witness_TruncationFails :
    (∃ e, parseDer (hex 8 0x3006020105040141) = some [e]) ∧ 7 < (hex 8 0x3006020105040141).length := ⟨⟨_, rfl⟩, by decide⟩

theorem witness_CertificateIndex :
    16 ≤ (16 : Word32).toNat ∧ (15 : Word32).toNat < 16 ∧ (withCerts []).cert (15 : Word32).toNat = none ∧
      ((loaded [(0, rep 8 0)]).slot 0).length = 8 ∧ ((loaded [(0, rep 7 0)]).slot 0).length ≠ 8 ∧
      (withCerts [(0, rep 7 0)]).cert (0 : Word32).toNat = some recordA ∧
      ((withCerts [(0, rep 7 0)]).slot 0).length ≠ 8 := by
  refine ⟨by decide, by decide, rfl, by decide, by decide, rfl, by decide⟩

theorem witness_CertParseCommand :
    (15 : Word32).toNat < 16 ∧ parseCertificate ((loaded [(0, certificateA)]).slot 0) = some recordA ∧
      parseCertificate ((loaded []).slot 0) = none := by
  refine ⟨by decide, by decide +kernel, rfl⟩

/-- Record A with raw bytes longer than SLOT_MAX. -/
def recordLong : CertRecord := { recordA with rawBytes := rep (Config.slotMax + 1) 0 }

theorem witness_CertFieldCommand :
    65536 ≤ (65536 : Word32).toNat ∧ 13 < (14 : Word32).toNat % 256 ∧ (13 : Word32).toNat % 256 ≤ 13 ∧
      16 ≤ (0x1000 : Word32).toNat / 256 ∧ (0x0f00 : Word32).toNat / 256 < 16 ∧ (withCerts []).cert 15 = none ∧
      (withCerts []).cert 0 = some recordA ∧ (toBe recordA.version.toNat 4).length ≤ Config.slotMax ∧
      Config.slotMax < recordLong.rawBytes.length := by
  refine ⟨by decide, by decide, by decide, by decide, by decide, rfl, rfl,
    slotMax_large _ (by decide), ?_⟩
  rw [recordLong, length_rep]
  exact Nat.lt_add_one _

/-- Record A whose three known extensions hold nothing readable. -/
def recordMalformed : CertRecord :=
  { recordA with extensions := recordA.extensions.map fun e => { e with value := [0x05, 0x00] } }

theorem witness_ExtensionCommands :
    (0 : Word32).toNat < 16 ∧ (withCerts []).cert 0 = some recordA ∧ (withCerts []).cert 1 = some recordB ∧
      san recordB = .absent ∧ san recordMalformed = .malformed ∧ (∃ names, san recordA = .present names) ∧
      basicConstraints recordB = .absent ∧ basicConstraints recordMalformed = .malformed ∧
      (∃ b, basicConstraints recordA = .present b) ∧ keyUsage recordB = .absent ∧
      keyUsage recordMalformed = .malformed ∧ ∃ mask, keyUsage recordA = .present mask :=
  ⟨by decide, rfl, rfl, rfl, rfl, ⟨_, rfl⟩, rfl, rfl, ⟨_, rfl⟩, rfl, rfl, ⟨_, rfl⟩⟩

theorem witness_HostnameCommands :
    san recordMalformed = .malformed ∧ (∃ names, san recordA = .present names) ∧ san recordB = .absent ∧
      (∃ rest, lowerBytes (hex 3 0x2a2e41) = 0x2a#8 :: 0x2e#8 :: rest) ∧
      ∀ rest, lowerBytes (hex 1 0x2a) ≠ 0x2a#8 :: 0x2e#8 :: rest :=
  ⟨rfl, ⟨_, rfl⟩, rfl, ⟨_, rfl⟩, fun rest h => by have := congrArg List.length h; simp [lowerBytes, hex] at this⟩

theorem witness_CertValidityCommand :
    (hex 8 0x65920080).length = 8 ∧ validAt recordA (nowOf (hex 8 0x65920080)) ∧
      validAt recordA (nowOf (hex 8 0x7861f800)) ∧ ¬validAt recordA (nowOf (hex 8 0x6592007f)) ∧
      ¬validAt recordA (nowOf (hex 8 0x7861f801)) := by
  unfold validAt
  decide

theorem witness_ChainValidateCommand :
    ((loaded [(0, rep 7 0)]).slot 0).length ≠ 8 ∧ ((loaded [(0, rep 8 0)]).slot 0).length = 8 ∧
      10 < (11 : Word32).toNat ∧ (0 : Word32).toNat = 0 ∧
      (∀ i, i < 2 → positionGood (withCerts []) 2 (nowOf (hex 8 0x684ee180)) i) ∧
      ¬positionGood (withCerts []) 3 (nowOf (hex 8 0x684ee180)) 2 := by
  refine ⟨by decide, by decide, by decide, by decide, ?_, ?_⟩
  · intro i hi
    interval_cases i
    · exact ⟨recordA, rfl, by unfold validAt; decide, fun h => absurd h (by decide)⟩
    · exact ⟨recordB, rfl, by unfold validAt; decide, fun _ h => absurd h (by decide)⟩
  · rintro ⟨r, h, _⟩
    cases h

/-- The state after reset with the trust store full, of entries that no fingerprint equals. -/
def storeFilled : State := { State.reset with ts := List.replicate Config.tsCap [] }

theorem witness_TrustStoreCommands :
    shaHash .sha256 [] ∈ ({ State.reset with ts := [shaHash .sha256 []] } : State).ts ∧
      ([shaHash .sha256 []] : List Bytes).length < 2 ^ 32 ∧
      shaHash .sha256 [] ∉ storeFilled.ts ∧ storeFilled.ts.length = Config.tsCap ∧
      shaHash .sha256 [] ∉ State.reset.ts ∧ tsWf State.reset.ts = true ∧ State.reset.ts.length < Config.tsCap ∧
      (withCerts []).cert (0 : Word32).toNat = some recordA := by
  refine ⟨by simp, by simp, ?_, List.length_replicate, by simp [State.reset], rfl, Nat.succ_pos _, rfl⟩
  intro h
  have h1 := (List.mem_replicate.mp h).2
  have h2 := length_shaHash .sha256 []
  rw [h1] at h2
  exact absurd h2 (by decide)

theorem witness_AddedRootIsTrusted :
    ∃ s1 s2, exec (.tsAdd 0) (loaded [(0, certificateA)]) = .next s1 ∧ s1.result = .ok ∧
      exec (.certParse 0 0) s1 = .next s2 ∧ s2.result = .ok :=
  ⟨_, _, rfl, by decide +kernel, rfl, by decide +kernel⟩

/-- A record with the serial number of record A. -/
def ocspOf (status : Nat) (hasNext : Bool) (nextUpdate : Word64) : OcspRecord := ⟨hex 2 0x1234, status, hasNext, nextUpdate⟩

theorem witness_OcspCheckCommand :
    (withCerts []).cert (0 : Word32).toNat = some recordA ∧ (hex 8 0x684ee180).length = 8 ∧
      (∀ records, ¬ocspListIs (hex 3 0x021234) records) ∧
      ocspListIs [] [] ∧ ocspListIs (hex 13 0x02123401000000000000000000) [ocspOf 1 false 0] ∧
      ocspListIs (hex 13 0x021234000100000000684ee17f) [ocspOf 0 true 0x684ee17f] ∧
      (ocspOf 0 true 0x684ee17f).nextUpdate.toInt < nowOf (hex 8 0x684ee180) ∧
      ocspListIs (hex 13 0x021234000100000000684ee180) [ocspOf 0 true 0x684ee180] ∧
      ¬(ocspOf 0 true 0x684ee180).nextUpdate.toInt < nowOf (hex 8 0x684ee180) ∧
      (ocspOf 0 true 0x684ee180).serial = recordA.serialNumber := by
  refine ⟨rfl, by decide, ?_, ⟨by simp, rfl⟩, ⟨?_, by decide⟩, ⟨?_, by decide⟩, by decide, ⟨?_, by decide⟩, by decide,
    by decide⟩
  · rintro (_ | ⟨m, ms⟩) ⟨_, h⟩
    · exact absurd h (by decide)
    · have := congrArg List.length h
      simp [ocspOctets, hex] at this
      omega
  all_goals
    simp only [List.mem_singleton, forall_eq, ocspWellFormed]
    decide

theorem witness_ExtensionViews :
    (∀ x ∈ recordB.extensions, x.oid ≠ [0x55, 0x1d, 0x11]) ∧
      firstExtension recordA [0x55, 0x1d, 0x13] (hex 8 0x30060101ff020101) ∧
      (∃ e, parseDer (hex 8 0x30060101ff020101) = some [e] ∧ basicConstraintsReads e ⟨true, some 1⟩ ∧
        ∀ mask, ¬keyUsageReads e mask) ∧
      parseDer (hex 1 0x30) = none ∧ parseDer [] = some [] := by
  refine ⟨by decide, ⟨[], _, _, rfl, by simp, rfl, rfl⟩, ⟨_, rfl, ⟨rfl, .inl ⟨_, _, 0xff, [], rfl, rfl, rfl, by decide, ?_⟩⟩, ?_⟩,
    rfl, rfl⟩
  · exact .inl ⟨_, _, 1, [], rfl, rfl, rfl, by decide, by decide, rfl⟩
  · rintro mask ⟨h, _⟩
    cases h

end Sys2Proof.Tests
end

section
/-! SUPPORT. What no command reads and how a command ends. Every command ends in one of four ways (`Ending`), and the
way is chosen by the slots, the certificate table and the trust store alone (10_state.md R30, R31, R35). -/

namespace Sys2Proof.Machine

open Sys2Proof

/-! What no command reads. -/

/-- R28, R29, R35: the pieces of state that a command writes and never reads. -/
structure Flags where
  busy : Bool
  done : Bool
  proto : Bool
  result : ResultCode
  retval : Word32
  errinfo : Word32
  units : Units

/-- The state with other values of STATUS, RETVAL, ERRINFO and the working registers. -/
def State.withFlags (s : State) (F : Flags) : State :=
  { s with
    busy := F.busy, done := F.done, proto := F.proto, result := F.result, retval := F.retval, errinfo := F.errinfo,
    units := F.units }

/-- The values STATUS, RETVAL, ERRINFO and the working registers have. -/
def State.flags (s : State) : Flags := ⟨s.busy, s.done, s.proto, s.result, s.retval, s.errinfo, s.units⟩

theorem State.withFlags_flags (s : State) : s.withFlags s.flags = s := rfl

@[simp] theorem State.slot_withFlags (s : State) (F : Flags) (j : Slot) : (s.withFlags F).slot j = s.slot j := rfl
@[simp] theorem State.cert_withFlags (s : State) (F : Flags) (k : Nat) : (s.withFlags F).cert k = s.cert k := rfl
@[simp] theorem State.ts_withFlags (s : State) (F : Flags) : (s.withFlags F).ts = s.ts := rfl

theorem State.setSlots_withFlags (s : State) (F : Flags) (ws : List (Slot × Bytes)) :
    (s.withFlags F).setSlots ws = (s.setSlots ws).withFlags F := by
  induction ws generalizing s with
  | nil => rfl
  | cons w ws ih => exact ih (s.setSlot w.1 w.2)

theorem State.succeed_withFlags (s : State) (F : Flags) (ws : List (Slot × Bytes)) (v : Word32) :
    (s.withFlags F).succeed ws v = { s.succeed ws v with proto := F.proto } := by
  simp only [State.succeed, State.setSlots_withFlags]
  rfl

theorem State.raise_withFlags (s : State) (F : Flags) (ds : List Slot) (f : Failure) :
    (s.withFlags F).raise ds f = { s.raise ds f with proto := F.proto } := by
  simp only [State.raise, State.clearSlots, State.setSlots_withFlags]
  split <;> rfl

/-! The endings of a command. -/

/-- How a command ends: with a failure that empties its destinations as R376 (a) says, with OK and results, as
CERT_PARSE ends once its index is good (R300), or as TS_ADD ends when it adds a fingerprint (R320). -/
inductive Ending where
  | fails (f : Failure)
  | succeeds (writes : List (Slot × Bytes)) (retval : Word32)
  | parses (idx : Nat) (record : Option CertRecord)
  | trusts (f : Bytes)

/-- The state after a command with the destinations `ds` that began in `s`. -/
def Ending.apply (ds : List Slot) (s : State) : Ending → State
  | .fails f => s.raise ds f
  | .succeeds ws v => s.succeed ws v
  | .parses idx none => (s.setCert idx none).raise [] .parseError
  | .parses idx (some r) => (s.setCert idx (some r)).succeed [] r.version
  | .trusts f => State.succeed { s with ts := insertFingerprint f s.ts } [] (countWord (s.ts.length + 1))

/-- R372: the operand number of a BAD_LENGTH is 1 to 5. -/
def Failure.operandOk : Failure → Bool
  | .badLength k => decide (1 ≤ k ∧ k ≤ 5)
  | _ => true

/-- R373: the failure is one that a command with these codes can end with. -/
def MayFail (codes : List ResultCode) (f : Failure) : Prop := f.result ∈ codes ∧ f.operandOk = true

/-- R20: no slot is longer than SLOT_MAX. -/
def State.SlotsFit (s : State) : Prop := ∀ j, (s.slot j).length ≤ Config.slotMax

/-- What the ending of a command that began in `s` satisfies: R373 for a failure, R22 and R79 for results, R300 for
CERT_PARSE and R320 for TS_ADD. -/
def Ending.Allowed (i : Instr) (s : State) : Ending → Prop
  | .fails f => MayFail (failureCodes i) f
  | .succeeds ws _ => ∀ w ∈ ws, w.1 ∈ destSlots i ∧ (s.SlotsFit → w.2.length ≤ Config.slotMax)
  | .parses idx record => ∃ rs1 imm, i = .certParse rs1 imm ∧ idx = imm.toNat ∧ record = parseCertificate (s.slot rs1)
  | .trusts f => ∃ rs1, i = .tsAdd rs1 ∧ f = fingerprint (s.slot rs1) ∧ f ∉ s.ts ∧ s.ts.length < Config.tsCap

/-- `body`, run on the state with any flags, leaves the state of one allowed ending, the same for all flags. -/
def EndsIn (i : Instr) (s : State) (body : Flags → State) : Prop :=
  ∃ e : Ending, e.Allowed i s ∧ ∀ F, body F = e.apply (destSlots i) (s.withFlags F)

/-- The command `o`, run on the state with any flags, ends with one allowed ending, the same for all flags. -/
def Ends (i : Instr) (s : State) (o : Flags → Host.Outcome State Fault Refusal) : Prop :=
  ∃ e : Ending, e.Allowed i s ∧ ∀ F, o F = .next (e.apply (destSlots i) (s.withFlags F))

/-- An ending differs with the flags it began with in PROTO only. -/
theorem Ending.apply_withFlags (e : Ending) (ds : List Slot) (s : State) (F : Flags) :
    e.apply ds (s.withFlags F) = { e.apply ds s with proto := F.proto } := by
  cases e with
  | fails f => exact s.raise_withFlags F ds f
  | succeeds ws v => exact s.succeed_withFlags F ws v
  | parses idx record =>
    cases record with
    | none => exact (s.setCert idx none).raise_withFlags F [] .parseError
    | some r => exact (s.setCert idx (some r)).succeed_withFlags F [] r.version
  | trusts f => rfl

/-- R30, R370: all endings end alike. -/
theorem Ending.ended_apply (e : Ending) (ds : List Slot) (s : State) :
    Ended s (e.apply ds s) (e.apply ds s).result (e.apply ds s).retval (e.apply ds s).errinfo := by
  cases e with
  | fails f => exact s.ended_raise ds f
  | succeeds ws v => exact s.ended_succeed ws v
  | parses idx record => cases record <;> constructor <;> rfl
  | trusts f => constructor <;> rfl

/-- R373: an allowed ending's code. -/
theorem Ending.result_apply (e : Ending) (i : Instr) (s : State) (h : e.Allowed i s) :
    (e.apply (destSlots i) s).result = .ok ∨ (e.apply (destSlots i) s).result ∈ failureCodes i := by
  cases e with
  | fails f => exact .inr h.1
  | succeeds ws v => exact .inl rfl
  | parses idx record =>
    obtain ⟨rs1, imm, rfl, -, -⟩ := h
    cases record with
    | none => exact .inr (by simp [Ending.apply, failureCodes, Failure.result])
    | some r => exact .inl rfl
  | trusts f => exact .inl rfl

/-- R9: what is no longer than the least SLOT_MAX fits a slot. -/
theorem le_slotMax {n : Nat} (h : n ≤ 1048576) : n ≤ Config.slotMax := h.trans slotMax_bounds.1

/-! The checks of a command, and the ways its body ends. -/

/-- The check raises, if it fails, a failure that a command with these codes can end with. -/
def CheckOk (codes : List ResultCode) (c : Option Failure) : Prop := ∀ f, c = some f → MayFail codes f

section
variable {i : Instr} {s : State} {codes : List ResultCode}

@[simp] theorem checkOk_checkLength {k : Nat} {b : Bytes} {n : Nat} (hi : .badLength ∈ codes) (h1 : 1 ≤ k)
    (h5 : k ≤ 5) : CheckOk codes (checkLength k b n) := by
  unfold CheckOk checkLength
  split <;> simp [MayFail, Failure.result, Failure.operandOk, hi, h1, h5]

@[simp] theorem checkOk_checkMaxLength {k : Nat} {b : Bytes} {n : Nat} (hi : .badLength ∈ codes) (h1 : 1 ≤ k)
    (h5 : k ≤ 5) : CheckOk codes (checkMaxLength k b n) := by
  unfold CheckOk checkMaxLength
  split <;> simp [MayFail, Failure.result, Failure.operandOk, hi, h1, h5]

@[simp] theorem checkOk_checkAlias {rd rd2 : Slot} (hi : .operandAlias ∈ codes) :
    CheckOk codes (checkAlias rd rd2) := by
  unfold CheckOk checkAlias
  split <;> simp [MayFail, Failure.result, Failure.operandOk, hi]

@[simp] theorem checkOk_checkImm {inRange : Bool} (hi : .badImm ∈ codes) : CheckOk codes (checkImm inRange) := by
  unfold CheckOk checkImm
  split <;> simp [MayFail, Failure.result, Failure.operandOk, hi]

@[simp] theorem checkOk_checkIndex {idx : Nat} (hi : .badIndex ∈ codes) : CheckOk codes (checkIndex idx) := by
  unfold CheckOk checkIndex
  split <;> simp [MayFail, Failure.result, Failure.operandOk, hi]

@[simp] theorem checkOk_checkFits {n : Nat} (hi : .overflow ∈ codes) : CheckOk codes (checkFits n) := by
  unfold CheckOk checkFits
  split <;> simp [MayFail, Failure.result, Failure.operandOk, hi]

/-- R380: all checks pass. -/
theorem firstFailure_eq_none_iff (cs : List (Option Failure)) : firstFailure cs = none ↔ ∀ c ∈ cs, c = none := by
  induction cs with
  | nil => simp
  | cons c cs ih => cases c <;> simp [ih]

theorem checkLength_eq_none_iff (k : Nat) (b : Bytes) (n : Nat) : checkLength k b n = none ↔ b.length = n := by
  simp [checkLength]

theorem checkImm_eq_none_iff (inRange : Bool) : checkImm inRange = none ↔ inRange = true := by
  simp [checkImm]

theorem checkFits_eq_none_iff (n : Nat) : checkFits n = none ↔ n ≤ Config.slotMax := by
  simp [checkFits_eq]

theorem endsIn_raise {ds : List Slot} (hd : destSlots i = ds) {f : Failure} (hf : MayFail (failureCodes i) f) :
    EndsIn i s fun F => (s.withFlags F).raise ds f := by
  subst hd
  exact ⟨.fails f, hf, fun _ => rfl⟩

theorem endsIn_nothing {v : Word32} : EndsIn i s fun F => (s.withFlags F).succeed [] v :=
  ⟨.succeeds [] v, by simp [Ending.Allowed], fun _ => rfl⟩

theorem endsIn_write {rd : Slot} (hd : destSlots i = [rd]) {out : Bytes} {v : Word32}
    (hl : s.SlotsFit → out.length ≤ Config.slotMax) : EndsIn i s fun F => (s.withFlags F).succeed [(rd, out)] v :=
  ⟨.succeeds [(rd, out)] v, by simpa [Ending.Allowed, hd] using hl, fun _ => rfl⟩

theorem endsIn_write2 {rd rd2 : Slot} (hd : destSlots i = [rd, rd2]) {out out2 : Bytes} {v : Word32}
    (hl : s.SlotsFit → out.length ≤ Config.slotMax) (hl2 : s.SlotsFit → out2.length ≤ Config.slotMax) :
    EndsIn i s fun F => (s.withFlags F).succeed [(rd, out), (rd2, out2)] v :=
  ⟨.succeeds [(rd, out), (rd2, out2)] v, by simpa [Ending.Allowed, hd] using ⟨hl, hl2⟩, fun _ => rfl⟩

/-- R79, R380 step 8. -/
theorem endsIn_deliver {rd : Slot} (hd : destSlots i = [rd]) (ho : .overflow ∈ failureCodes i) {out : Bytes}
    {v : Word32} : EndsIn i s fun F => (s.withFlags F).deliver rd out v := by
  simp only [State.deliver_eq]
  split
  · exact endsIn_raise hd ⟨ho, rfl⟩
  · exact endsIn_write hd fun _ => by omega

/-- R299, R380 step 5. -/
theorem endsIn_withCert {ds : List Slot} (hd : destSlots i = ds) (hn : .noCert ∈ failureCodes i) {idx : Nat}
    {body : Flags → CertRecord → State} (hb : ∀ r, EndsIn i s fun F => body F r) :
    EndsIn i s fun F => (s.withFlags F).withCert ds idx (body F) := by
  cases hr : s.cert idx with
  | none =>
    simp only [State.withCert, State.cert_withFlags, hr]
    exact endsIn_raise hd ⟨hn, rfl⟩
  | some r =>
    simp only [State.withCert, State.cert_withFlags, hr]
    exact hb r

/-- R380: a command whose checks and whose body end as they may. -/
theorem ends_run (codes : List ResultCode) {ds : List Slot} (hd : destSlots i = ds) (hi : failureCodes i = codes)
    {cs : List (Option Failure)} (hc : ∀ c ∈ cs, CheckOk codes c) {body : Flags → Unit → State}
    (hb : firstFailure cs = none → EndsIn i s fun F => body F ()) :
    Ends i s fun F => (s.withFlags F).run ds cs (body F) := by
  subst hd hi
  cases hf : firstFailure cs with
  | none =>
    obtain ⟨e, he, h⟩ := hb hf
    exact ⟨e, he, fun F => (State.run_of_none _ _ _ _ hf).trans (congrArg _ (h F))⟩
  | some f =>
    exact ⟨.fails f, hc _ (firstFailure_mem cs f hf) f rfl, fun F => State.run_of_some _ _ _ _ f hf⟩

/-- A command whose body writes one result. -/
theorem ends_run_write (codes : List ResultCode) {rd : Slot} (hd : destSlots i = [rd]) (hi : failureCodes i = codes)
    {cs : List (Option Failure)} (hc : ∀ c ∈ cs, CheckOk codes c) {out : Bytes} {v : Word32}
    (hl : firstFailure cs = none → s.SlotsFit → out.length ≤ Config.slotMax) :
    Ends i s fun F => (s.withFlags F).run [rd] cs fun _ => (s.withFlags F).succeed [(rd, out)] v :=
  ends_run codes hd hi hc fun h => endsIn_write hd (hl h)

/-- A command whose body writes one result that is short whatever the operands are. -/
theorem ends_run_write_short (codes : List ResultCode) {rd : Slot} (hd : destSlots i = [rd])
    (hi : failureCodes i = codes) {cs : List (Option Failure)} (hc : ∀ c ∈ cs, CheckOk codes c) {out : Bytes}
    {v : Word32} (hl : out.length ≤ 1048576) :
    Ends i s fun F => (s.withFlags F).run [rd] cs fun _ => (s.withFlags F).succeed [(rd, out)] v :=
  ends_run_write codes hd hi hc fun _ _ => le_slotMax hl

/-- R299: a command that reads an entry of the certificate table. -/
theorem ends_run_withCert (codes : List ResultCode) {ds : List Slot} (hd : destSlots i = ds)
    (hi : failureCodes i = codes) {cs : List (Option Failure)} (hc : ∀ c ∈ cs, CheckOk codes c) (hn : .noCert ∈ codes)
    {idx : Nat} {body : Flags → CertRecord → State} (hb : ∀ r, EndsIn i s fun F => body F r) :
    Ends i s fun F => (s.withFlags F).run ds cs fun _ => (s.withFlags F).withCert ds idx (body F) :=
  ends_run codes hd hi hc fun _ => endsIn_withCert hd (hi ▸ hn) hb

end

end Sys2Proof.Machine
end

section
/-! SUPPORT. Every command ends with one allowed ending, whatever the flags it began with (60_exceptions.md R370). -/

namespace Sys2Proof.Machine

open Sys2Proof

section
variable {i : Instr} (s : State) (v : Variant) (rd rd2 rs1 rs2 rs3 rs4 rs5 : Slot) (imm : Word32)

/-! Hash, MAC and key derivation, for every variant. -/

theorem hashLen_le (v : Variant) : hashLen v ≤ 64 := by cases v <;> decide

theorem stateLen_le (v : Variant) : stateLen v ≤ 64 := by cases v <;> decide

/-- R155: the limit of the key derivation lies below the least SLOT_MAX. -/
theorem expandLimit_le_slotMax (v : Variant) : expandLimit v ≤ Config.slotMax :=
  le_slotMax (by cases v <;> decide)

theorem hashCommand_ends (hd : destSlots i = [rd]) :
    Ends i s fun F => hashCommand v rd rs1 (s.withFlags F) := by
  simp only [hashCommand, State.slot_withFlags]
  exact ends_run_write_short (failureCodes i) hd rfl (by simp) (by have := hashLen_le v; rw [length_shaHash]; omega)

theorem compressCommand_ends (hd : destSlots i = [rd]) (hi : failureCodes i = [.badLength]) :
    Ends i s fun F => compressCommand v rd rs1 rs2 (s.withFlags F) := by
  simp only [compressCommand, State.slot_withFlags]
  exact ends_run_write_short [.badLength] hd hi (by simp) (by have := stateLen_le v; rw [length_compressBytes]; omega)

theorem padCommand_ends (hd : destSlots i = [rd]) (hi : failureCodes i = [.overflow]) :
    Ends i s fun F => padCommand v rd rs1 (s.withFlags F) := by
  simp only [padCommand, State.slot_withFlags]
  refine ends_run_write [.overflow] hd hi (by simp) fun hf _ => ?_
  simpa [firstFailure_eq_none_iff, checkFits_eq_none_iff, length_shaPad] using hf

theorem ivCommand_ends (hd : destSlots i = [rd]) :
    Ends i s fun F => ivCommand v rd (s.withFlags F) := by
  simp only [ivCommand]
  exact ends_run_write_short (failureCodes i) hd rfl (by simp) (by have := stateLen_le v; rw [length_ivBytes]; omega)

theorem hmacCommand_ends (hd : destSlots i = [rd]) :
    Ends i s fun F => hmacCommand v rd rs1 rs2 (s.withFlags F) := by
  simp only [hmacCommand, State.slot_withFlags]
  exact ends_run_write_short (failureCodes i) hd rfl (by simp) (by have := hashLen_le v; rw [length_hmac]; omega)

theorem extractCommand_ends (hd : destSlots i = [rd]) :
    Ends i s fun F => extractCommand v rd rs1 rs2 (s.withFlags F) :=
  hmacCommand_ends s v rd rs1 rs2 hd

theorem expandCommand_ends (hd : destSlots i = [rd]) (hi : failureCodes i = [.badImm]) :
    Ends i s fun F => expandCommand v rd rs1 rs2 imm (s.withFlags F) := by
  simp only [expandCommand, State.slot_withFlags]
  refine ends_run_write [.badImm] hd hi (by simp) fun hf _ => ?_
  have himm : imm.toNat ≤ expandLimit v := by simpa [firstFailure_eq_none_iff, checkImm_eq_none_iff] using hf
  rw [length_hkdfExpand]
  exact himm.trans (expandLimit_le_slotMax v)

theorem expandLabelCommand_ends (hd : destSlots i = [rd]) (hi : failureCodes i = [.badImm, .badLength]) :
    Ends i s fun F => expandLabelCommand v rd rs1 rs2 rs3 imm (s.withFlags F) := by
  simp only [expandLabelCommand, State.slot_withFlags]
  refine ends_run_write [.badImm, .badLength] hd hi (by simp) fun hf _ => ?_
  rw [firstFailure_eq_none_iff, List.forall_mem_cons, checkImm_eq_none_iff, Bool.and_eq_true, decide_eq_true_eq,
    decide_eq_true_eq] at hf
  obtain ⟨⟨-, himm⟩, -⟩ := hf
  rw [length_hkdfExpand]
  exact himm.trans (expandLimit_le_slotMax v)

/-! Commands that end with results as long as an operand. -/

theorem execSlotCopy_ends : Ends (.slotCopy rd rs1) s fun F => execSlotCopy rd rs1 (s.withFlags F) := by
  simp only [execSlotCopy, State.slot_withFlags]
  exact ends_run_write [] rfl rfl (by simp) fun _ hs => hs rs1

theorem execSlotConcat_ends : Ends (.slotConcat rd rs1 rs2) s fun F => execSlotConcat rd rs1 rs2 (s.withFlags F) := by
  simp only [execSlotConcat, State.slot_withFlags]
  refine ends_run_write [.overflow] rfl rfl (by simp) fun hf _ => ?_
  simpa [firstFailure_eq_none_iff, checkFits_eq_none_iff] using hf

theorem execAesCtr_ends : Ends (.aesCtr rd rs1 rs2 rs3) s fun F => execAesCtr rd rs1 rs2 rs3 (s.withFlags F) := by
  simp only [execAesCtr, State.slot_withFlags]
  exact ends_run_write [.badLength] rfl rfl (by simp) fun _ hs => by rw [length_aesCtr]; exact hs rs3

theorem execGcmEnc_ends :
    Ends (.gcmEnc rd rd2 rs1 rs2 rs3 rs4) s fun F => execGcmEnc rd rd2 rs1 rs2 rs3 rs4 (s.withFlags F) := by
  simp only [execGcmEnc, State.slot_withFlags]
  refine ends_run [.operandAlias, .badLength] rfl rfl (by simp) fun _ => endsIn_write2 rfl (fun hs => ?_) fun _ => ?_
  · rw [gcmEncrypt, length_gcmCtr]; exact hs rs4
  · exact le_slotMax (by simp [gcmEncrypt])

theorem length_of_gcmDecrypt {key iv aad c tag p : Bytes} (h : gcmDecrypt key iv aad c tag = some p) :
    p.length = c.length := by
  unfold gcmDecrypt at h
  split at h
  · cases h; exact length_gcmCtr key iv c
  · cases h

theorem execGcmDec_ends :
    Ends (.gcmDec rd rs1 rs2 rs3 rs4 rs5) s fun F => execGcmDec rd rs1 rs2 rs3 rs4 rs5 (s.withFlags F) := by
  simp only [execGcmDec, State.slot_withFlags]
  refine ends_run [.badLength, .authFail] rfl rfl (by simp) fun _ => ?_
  cases hp : gcmDecrypt (s.slot rs1) (s.slot rs2) (s.slot rs3) (s.slot rs4) (s.slot rs5) with
  | none => exact endsIn_raise rfl ⟨by simp [failureCodes, Failure.result], rfl⟩
  | some p => exact endsIn_write rfl fun hs => by rw [length_of_gcmDecrypt hp]; exact hs rs4

/-- The length checks of the key and the nonce, passed. -/
theorem chachaOperands_of_checks {key nonce : Bytes} {more : List (Option Failure)}
    (hf : firstFailure (checkLength 1 key 32 :: checkLength 2 nonce 12 :: more) = none) :
    key.length = 32 ∧ nonce.length = 12 := by
  simp only [firstFailure_eq_none_iff, List.forall_mem_cons, checkLength_eq_none_iff] at hf
  exact ⟨hf.1, hf.2.1⟩

theorem execChacha20Block_ends :
    Ends (.chacha20Block rd rs1 rs2 imm) s fun F => execChacha20Block rd rs1 rs2 imm (s.withFlags F) := by
  simp only [execChacha20Block, State.slot_withFlags]
  refine ends_run_write [.badLength] rfl rfl (by simp) fun hf _ => ?_
  obtain ⟨hkey, hnonce⟩ := chachaOperands_of_checks hf
  exact le_slotMax (by simp [length_chachaBlock _ _ _ hkey hnonce])

theorem execChacha20Xor_ends :
    Ends (.chacha20Xor rd rs1 rs2 rs3 imm) s fun F => execChacha20Xor rd rs1 rs2 rs3 imm (s.withFlags F) := by
  simp only [execChacha20Xor, State.slot_withFlags]
  refine ends_run_write [.badLength] rfl rfl (by simp) fun hf hs => ?_
  obtain ⟨hkey, hnonce⟩ := chachaOperands_of_checks hf
  rw [length_chachaXor _ _ _ _ hkey hnonce]
  exact hs rs3

theorem execCcpEnc_ends :
    Ends (.ccpEnc rd rd2 rs1 rs2 rs3 rs4) s fun F => execCcpEnc rd rd2 rs1 rs2 rs3 rs4 (s.withFlags F) := by
  simp only [execCcpEnc, State.slot_withFlags]
  refine ends_run [.operandAlias, .badLength] rfl rfl (by simp) fun hf => endsIn_write2 rfl (fun hs => ?_) fun _ => ?_
  · have hmore := (List.forall_mem_cons.mp ((firstFailure_eq_none_iff _).mp hf)).2
    obtain ⟨hkey, hnonce⟩ := chachaOperands_of_checks ((firstFailure_eq_none_iff _).mpr hmore)
    rw [ccpEncrypt, length_chachaXor _ _ _ _ hkey hnonce]
    exact hs rs4
  · exact le_slotMax (by simp [ccpEncrypt])

theorem length_of_ccpDecrypt {key iv aad c tag p : Bytes} (hkey : key.length = 32) (hiv : iv.length = 12)
    (h : ccpDecrypt key iv aad c tag = some p) : p.length = c.length := by
  unfold ccpDecrypt at h
  split at h
  · cases h; exact length_chachaXor key iv 1 c hkey hiv
  · cases h

theorem execCcpDec_ends :
    Ends (.ccpDec rd rs1 rs2 rs3 rs4 rs5) s fun F => execCcpDec rd rs1 rs2 rs3 rs4 rs5 (s.withFlags F) := by
  simp only [execCcpDec, State.slot_withFlags]
  refine ends_run [.badLength, .authFail] rfl rfl (by simp) fun hf => ?_
  obtain ⟨hkey, hnonce⟩ := chachaOperands_of_checks hf
  cases hp : ccpDecrypt (s.slot rs1) (s.slot rs2) (s.slot rs3) (s.slot rs4) (s.slot rs5) with
  | none => exact endsIn_raise rfl ⟨by simp [failureCodes, Failure.result], rfl⟩
  | some p => exact endsIn_write rfl fun hs => by rw [length_of_ccpDecrypt hkey hnonce hp]; exact hs rs4

theorem execLadder_ends : Ends (.ladder rd rd2 rs1 rs2) s fun F => execLadder rd rd2 rs1 rs2 (s.withFlags F) := by
  simp only [execLadder, State.slot_withFlags]
  have hfit : ∀ a, (fieldEncode a).length ≤ Config.slotMax := fun a => le_slotMax (by simp)
  exact ends_run [.operandAlias, .badLength] rfl rfl (by simp) fun _ =>
    endsIn_write2 rfl (fun _ => hfit _) fun _ => hfit _

/-! The DER and certificate commands. -/

theorem execDerParse_ends : Ends (.derParse rd rs1) s fun F => execDerParse rd rs1 (s.withFlags F) := by
  simp only [execDerParse, State.slot_withFlags]
  refine ends_run [.parseError, .overflow] rfl rfl (by simp) fun _ => ?_
  cases parseDer (s.slot rs1) with
  | none => exact endsIn_raise rfl ⟨by simp [failureCodes, Failure.result], rfl⟩
  | some es => exact endsIn_deliver rfl (by simp [failureCodes])

theorem execCertParse_ends : Ends (.certParse rs1 imm) s fun F => execCertParse rs1 imm (s.withFlags F) := by
  simp only [execCertParse, State.slot_withFlags]
  refine ends_run [.badIndex, .parseError] rfl rfl (by simp) fun _ =>
    ⟨.parses imm.toNat (parseCertificate (s.slot rs1)), ⟨rs1, imm, rfl, rfl, rfl⟩, fun F => ?_⟩
  cases parseCertificate (s.slot rs1) <;> rfl

theorem execCertField_ends : Ends (.certField rd imm) s fun F => execCertField rd imm (s.withFlags F) := by
  simp only [execCertField]
  refine ends_run_withCert [.badImm, .badIndex, .noCert, .overflow] rfl rfl (by simp) (by simp) fun r => ?_
  cases certField r (imm.extractLsb' 0 8).toNat with
  | none => exact endsIn_raise rfl ⟨by simp [failureCodes, Failure.result], rfl⟩
  | some field => exact endsIn_deliver rfl (by simp [failureCodes])

theorem execCertSan_ends : Ends (.certSan rd imm) s fun F => execCertSan rd imm (s.withFlags F) := by
  simp only [execCertSan]
  refine ends_run_withCert [.badIndex, .noCert, .parseError, .overflow] rfl rfl (by simp) (by simp) fun r => ?_
  cases san r with
  | malformed => exact endsIn_raise rfl ⟨by simp [failureCodes, Failure.result], rfl⟩
  | absent => exact endsIn_write rfl fun _ => Nat.zero_le _
  | present names => exact endsIn_deliver rfl (by simp [failureCodes])

theorem execCertBc_ends : Ends (.certBc imm) s fun F => execCertBc imm (s.withFlags F) := by
  simp only [execCertBc]
  refine ends_run_withCert [.badIndex, .noCert, .parseError] rfl rfl (by simp) (by simp) fun r => ?_
  cases basicConstraints r with
  | malformed => exact endsIn_raise rfl ⟨by simp [failureCodes, Failure.result], rfl⟩
  | absent => exact endsIn_nothing
  | present b => exact endsIn_nothing

theorem execCertKu_ends : Ends (.certKu imm) s fun F => execCertKu imm (s.withFlags F) := by
  simp only [execCertKu]
  refine ends_run_withCert [.badIndex, .noCert, .parseError] rfl rfl (by simp) (by simp) fun r => ?_
  cases keyUsage r with
  | malformed => exact endsIn_raise rfl ⟨by simp [failureCodes, Failure.result], rfl⟩
  | absent => exact endsIn_nothing
  | present mask => exact endsIn_nothing

theorem firstChainFailure_withFlags (F : Flags) (n : Nat) (now : Word64) (is : List Nat) :
    firstChainFailure (s.withFlags F) n now is = firstChainFailure s n now is := by
  induction is with
  | nil => rfl
  | cons i is ih => simp only [firstChainFailure, ih]; rfl

/-- R317: a chain is judged by the certificate table alone. -/
theorem validateChain_withFlags (F : Flags) (n : Nat) (now : Word64) :
    validateChain (s.withFlags F) n now = validateChain s n now := by
  simp only [validateChain, firstChainFailure_withFlags]

theorem execChainValidate_ends :
    Ends (.chainValidate rs1 imm) s fun F => execChainValidate rs1 imm (s.withFlags F) := by
  simp only [execChainValidate, State.slot_withFlags, validateChain_withFlags]
  refine ends_run [.badLength, .validationFail] rfl rfl (by simp) fun _ => ?_
  cases validateChain s imm.toNat (timeOperand (s.slot rs1)) with
  | none => exact endsIn_nothing
  | some fault => exact endsIn_raise rfl ⟨by simp [failureCodes, Failure.result], rfl⟩

/-- R320: the store is full, whichever value TS_CAP has. -/
theorem storeFull_eq (ts : List Bytes) : storeFull ts = decide (Config.tsCap ≤ ts.length) := by
  have : 1 ≤ Config.tsCap := by unfold Config.tsCap; omega
  by_cases h : Config.tsCap ≤ ts.length
  · simp [storeFull, h]; omega
  · simp [storeFull, h]

theorem execTsAdd_ends : Ends (.tsAdd rs1) s fun F => execTsAdd rs1 (s.withFlags F) := by
  simp only [execTsAdd, State.slot_withFlags, State.ts_withFlags, storeFull_eq, decide_eq_true_eq]
  refine ends_run [.tsFull] rfl rfl (by simp) fun _ => ?_
  split
  · exact endsIn_nothing
  split
  · exact endsIn_raise rfl ⟨by simp [failureCodes, Failure.result], rfl⟩
  · rename_i hnew hroom
    exact ⟨.trusts (fingerprint (s.slot rs1)), ⟨rs1, rfl, rfl, hnew, by omega⟩, fun _ => rfl⟩

theorem execOcspCheck_ends : Ends (.ocspCheck rs1 rs2 imm) s fun F => execOcspCheck rs1 rs2 imm (s.withFlags F) := by
  simp only [execOcspCheck, State.slot_withFlags]
  have hfail : ∀ f : Failure, f = .parseError ∨ f = .validationFail .revoked 0 ∨ f = .validationFail .ocspExpired 0 →
      EndsIn (.ocspCheck rs1 rs2 imm) s fun F => (s.withFlags F).raise [] f := by
    rintro f (rfl | rfl | rfl) <;> exact endsIn_raise rfl ⟨by simp [failureCodes, Failure.result], rfl⟩
  refine ends_run_withCert [.badIndex, .badLength, .noCert, .parseError, .validationFail] rfl rfl (by simp)
    (by simp) fun r => ?_
  cases ocspRecords ((s.slot rs2).length + 1) (s.slot rs2) with
  | none => exact hfail _ (by simp)
  | some records =>
    simp only
    cases records.find? fun m => m.serial == r.serialNumber with
    | none => exact endsIn_nothing
    | some m =>
      simp only
      split
      · exact hfail _ (by simp)
      by_cases hexpired : (m.hasNext && !timeLe (timeOperand (s.slot rs1)) m.nextUpdate) = true
      · simp only [hexpired, if_true]
        exact hfail _ (by simp)
      · simp only [hexpired]
        exact endsIn_nothing

end

/-- Every command ends with one allowed ending, which STATUS, RETVAL, ERRINFO and the working registers have no part
in choosing. -/
theorem exec_ends (i : Instr) (s : State) : Ends i s fun F => exec i (s.withFlags F) := by
  cases i with
  | nop =>
    simp only [exec, execNop]
    exact ends_run [] rfl rfl (by simp) fun _ => endsIn_nothing
  | slotClear rd =>
    simp only [exec, execSlotClear]
    exact ends_run_write_short [] rfl rfl (by simp) (by simp)
  | slotCopy rd rs1 => exact execSlotCopy_ends s rd rs1
  | slotConcat rd rs1 rs2 => exact execSlotConcat_ends s rd rs1 rs2
  | ctCmp rs1 rs2 =>
    simp only [exec, execCtCmp, State.slot_withFlags]
    exact ends_run [] rfl rfl (by simp) fun _ => endsIn_nothing
  | hashSha256 rd rs1 => exact hashCommand_ends s .sha256 rd rs1 rfl
  | hashSha384 rd rs1 => exact hashCommand_ends s .sha384 rd rs1 rfl
  | hashSha512 rd rs1 => exact hashCommand_ends s .sha512 rd rs1 rfl
  | shaCompressSha256 rd rs1 rs2 => exact compressCommand_ends s .sha256 rd rs1 rs2 rfl rfl
  | shaCompressSha384 rd rs1 rs2 => exact compressCommand_ends s .sha384 rd rs1 rs2 rfl rfl
  | shaCompressSha512 rd rs1 rs2 => exact compressCommand_ends s .sha512 rd rs1 rs2 rfl rfl
  | shaPadSha256 rd rs1 => exact padCommand_ends s .sha256 rd rs1 rfl rfl
  | shaPadSha384 rd rs1 => exact padCommand_ends s .sha384 rd rs1 rfl rfl
  | shaPadSha512 rd rs1 => exact padCommand_ends s .sha512 rd rs1 rfl rfl
  | shaIvSha256 rd => exact ivCommand_ends s .sha256 rd rfl
  | shaIvSha384 rd => exact ivCommand_ends s .sha384 rd rfl
  | shaIvSha512 rd => exact ivCommand_ends s .sha512 rd rfl
  | hmacSha256 rd rs1 rs2 => exact hmacCommand_ends s .sha256 rd rs1 rs2 rfl
  | hmacSha384 rd rs1 rs2 => exact hmacCommand_ends s .sha384 rd rs1 rs2 rfl
  | hmacSha512 rd rs1 rs2 => exact hmacCommand_ends s .sha512 rd rs1 rs2 rfl
  | hkdfExtractSha256 rd rs1 rs2 => exact extractCommand_ends s .sha256 rd rs1 rs2 rfl
  | hkdfExtractSha384 rd rs1 rs2 => exact extractCommand_ends s .sha384 rd rs1 rs2 rfl
  | hkdfExtractSha512 rd rs1 rs2 => exact extractCommand_ends s .sha512 rd rs1 rs2 rfl
  | hkdfExpandSha256 rd rs1 rs2 imm => exact expandCommand_ends s .sha256 rd rs1 rs2 imm rfl rfl
  | hkdfExpandSha384 rd rs1 rs2 imm => exact expandCommand_ends s .sha384 rd rs1 rs2 imm rfl rfl
  | hkdfExpandSha512 rd rs1 rs2 imm => exact expandCommand_ends s .sha512 rd rs1 rs2 imm rfl rfl
  | hkdfExpandLabelSha256 rd rs1 rs2 rs3 imm =>
    exact expandLabelCommand_ends s .sha256 rd rs1 rs2 rs3 imm rfl rfl
  | hkdfExpandLabelSha384 rd rs1 rs2 rs3 imm =>
    exact expandLabelCommand_ends s .sha384 rd rs1 rs2 rs3 imm rfl rfl
  | hkdfExpandLabelSha512 rd rs1 rs2 rs3 imm =>
    exact expandLabelCommand_ends s .sha512 rd rs1 rs2 rs3 imm rfl rfl
  | aesKeyexp rd rs1 =>
    simp only [exec, execAesKeyexp, State.slot_withFlags]
    exact ends_run_write_short [.badLength] rfl rfl (by simp) (by simp)
  | aesEnc rd rs1 rs2 =>
    simp only [exec, execAesEnc, State.slot_withFlags]
    exact ends_run_write_short [.badLength] rfl rfl (by simp) (by simp)
  | gf128Mul rd rs1 rs2 =>
    simp only [exec, execGf128Mul, State.slot_withFlags]
    exact ends_run_write_short [.badLength] rfl rfl (by simp) (by simp)
  | ghash rd rs1 rs2 rs3 =>
    simp only [exec, execGhash, State.slot_withFlags]
    exact ends_run_write_short [.badLength] rfl rfl (by simp) (by simp)
  | aesCtr rd rs1 rs2 rs3 => exact execAesCtr_ends s rd rs1 rs2 rs3
  | gcmEnc rd rd2 rs1 rs2 rs3 rs4 => exact execGcmEnc_ends s rd rd2 rs1 rs2 rs3 rs4
  | gcmDec rd rs1 rs2 rs3 rs4 rs5 => exact execGcmDec_ends s rd rs1 rs2 rs3 rs4 rs5
  | chacha20Block rd rs1 rs2 imm => exact execChacha20Block_ends s rd rs1 rs2 imm
  | chacha20Xor rd rs1 rs2 rs3 imm => exact execChacha20Xor_ends s rd rs1 rs2 rs3 imm
  | poly1305 rd rs1 rs2 =>
    simp only [exec, execPoly1305, State.slot_withFlags]
    exact ends_run_write_short [.badLength] rfl rfl (by simp) (by simp)
  | ccpEnc rd rd2 rs1 rs2 rs3 rs4 => exact execCcpEnc_ends s rd rd2 rs1 rs2 rs3 rs4
  | ccpDec rd rs1 rs2 rs3 rs4 rs5 => exact execCcpDec_ends s rd rs1 rs2 rs3 rs4 rs5
  | x25519 rd rs1 rs2 =>
    simp only [exec, execX25519, State.slot_withFlags]
    exact ends_run_write_short [.badLength] rfl rfl (by simp) (by simp)
  | x25519Base rd rs1 =>
    simp only [exec, execX25519Base, State.slot_withFlags]
    exact ends_run_write_short [.badLength] rfl rfl (by simp) (by simp)
  | gfMul rd rs1 rs2 =>
    simp only [exec, execGfMul, State.slot_withFlags]
    exact ends_run_write_short [.badLength] rfl rfl (by simp) (by simp)
  | gfInv rd rs1 =>
    simp only [exec, execGfInv, State.slot_withFlags]
    exact ends_run_write_short [.badLength] rfl rfl (by simp) (by simp)
  | ladder rd rd2 rs1 rs2 => exact execLadder_ends s rd rd2 rs1 rs2
  | derParse rd rs1 => exact execDerParse_ends s rd rs1
  | certParse rs1 imm => exact execCertParse_ends s rs1 imm
  | certField rd imm => exact execCertField_ends s rd imm
  | certSan rd imm => exact execCertSan_ends s rd imm
  | certBc imm => exact execCertBc_ends s imm
  | certKu imm => exact execCertKu_ends s imm
  | certHostname rs1 imm =>
    simp only [exec, execCertHostname, State.slot_withFlags]
    exact ends_run_withCert [.badIndex, .noCert] rfl rfl (by simp) (by simp) fun _ => endsIn_nothing
  | hostnameMatch rs1 rs2 =>
    simp only [exec, execHostnameMatch, State.slot_withFlags]
    exact ends_run [] rfl rfl (by simp) fun _ => endsIn_nothing
  | certValidity rs1 imm =>
    simp only [exec, execCertValidity, State.slot_withFlags]
    exact ends_run_withCert [.badIndex, .badLength, .noCert] rfl rfl (by simp) (by simp) fun _ => endsIn_nothing
  | chainValidate rs1 imm => exact execChainValidate_ends s rs1 imm
  | tsAdd rs1 => exact execTsAdd_ends s rs1
  | tsQuery imm =>
    simp only [exec, execTsQuery]
    exact ends_run_withCert [.badIndex, .noCert] rfl rfl (by simp) (by simp) fun r =>
      endsIn_nothing (v := boolWord (decide (fingerprint r.rawBytes ∈ s.ts)))
  | ocspCheck rs1 rs2 imm => exact execOcspCheck_ends s rs1 rs2 imm

/-- R370: what a command can do: end with one allowed ending. -/
theorem exec_eq_apply (i : Instr) (s : State) :
    ∃ e : Ending, e.Allowed i s ∧ exec i s = .next (e.apply (destSlots i) s) := by
  obtain ⟨e, he, h⟩ := exec_ends i s
  exact ⟨e, he, h s.flags⟩

end Sys2Proof.Machine
end

section
/-! SUPPORT. One step of the machine, case by case (10_state.md R30, 20_memory.md R60 to R65, 60_exceptions.md R381). -/

namespace Sys2Proof.Machine

open Sys2Proof

/-! Whose turn it is. -/

theorem step_of_nil (s : State) (h : s.schedule = []) : step s = coreStep s := by
  unfold step
  rw [h]

theorem step_of_core (s : State) (rest : List Turn) (h : s.schedule = .core :: rest) :
    step s = coreStep { s with schedule := rest } := by
  unfold step
  rw [h]

theorem step_of_host (s : State) (tx : HostTx) (rest : List Turn) (h : s.schedule = .host tx :: rest) :
    step s = State.host { s with schedule := rest } tx := by
  unfold step
  rw [h]

/-- All a step can do: the core's turn, or a transaction of the host. -/
theorem step_cases (s t : State) (h : step s = .next t) :
    (∃ rest, coreStep { s with schedule := rest } = .next t) ∨
      ∃ tx rest, s.schedule = .host tx :: rest ∧ State.host { s with schedule := rest } tx = .next t := by
  match hs : s.schedule with
  | [] => exact .inl ⟨[], by rw [← h, step_of_nil s hs, ← hs]⟩
  | .core :: rest => exact .inl ⟨rest, by rw [← h, step_of_core s rest hs]⟩
  | .host tx :: rest => exact .inr ⟨tx, rest, rfl, by rw [← h, step_of_host s tx rest hs]⟩

/-! The core's turn. -/

theorem coreStep_of_idle (s : State) (h : s.busy = false) : coreStep s = .next s := by
  simp [coreStep, h]

theorem coreStep_of_legal (s : State) (i : Instr) (h : s.busy = true) (hi : decode s.cmdReg = .ok i) :
    coreStep s = exec i s := by
  simp [coreStep, State.command, h, hi]

theorem coreStep_of_illegal (s : State) (h : s.busy = true) (hi : ∀ i, decode s.cmdReg ≠ .ok i) :
    coreStep s = .next s.illegal := by
  cases hd : decode s.cmdReg with
  | ok i => exact absurd hd (hi i)
  | error e => simp [coreStep, State.command, h, hd]

/-- All the core can do in its turn: hold the state, run a command, or end a word that is none. -/
theorem coreStep_cases (s t : State) (h : coreStep s = .next t) :
    t = s ∨ (∃ i, exec i s = .next t) ∨ t = s.illegal := by
  by_cases hb : s.busy = true
  · by_cases hi : ∃ i, decode s.cmdReg = .ok i
    · obtain ⟨i, hi⟩ := hi
      exact .inr (.inl ⟨i, by rw [← h, coreStep_of_legal s i hb hi]⟩)
    · rw [coreStep_of_illegal s hb (not_exists.mp hi)] at h
      exact .inr (.inr (by simpa using h.symm))
  · rw [coreStep_of_idle s (by simpa using hb)] at h
    exact .inl (by simpa using h.symm)

/-- The core leaves PROTO as it is. -/
theorem coreStep_proto (s t : State) (h : coreStep s = .next t) : t.proto = s.proto := by
  obtain rfl | ⟨i, hi⟩ | rfl := coreStep_cases s t h
  · rfl
  · obtain ⟨e, -, he⟩ := exec_eq_apply i s
    obtain rfl : e.apply (destSlots i) s = t := by simpa using he.symm.trans hi
    exact (e.ended_apply (destSlots i) s).proto_eq
  · exact State.raise_proto s [] .illegalCmd

/-! The host's turn. -/

/-- What a transaction can do (R61 to R65, R410): answer, be refused while BUSY = 1, issue a command, write CMD_HI,
write a slot, reset. -/
inductive HostStep (s : State) : HostTx → State → Prop where
  | replies (tx : HostTx) (reply : Reply) : HostStep s tx { s with reply := reply }
  | refuses (tx : HostTx) (reply : Reply) (hbusy : s.busy = true) (hread : ∀ n, tx ≠ .csrRead n)
      (hreset : tx ≠ .reset) : HostStep s tx (s.protocolError reply)
  | issues (n v : Word32) : HostStep s (.csrWrite n v) { s.issue v with reply := .nothing }
  | setsHigh (n v : Word32) (hidle : s.busy = false) :
      HostStep s (.csrWrite n v) { s with cmdHi := v, reply := .nothing }
  | writes (i : Slot) (b : Bytes) (hfit : b.length ≤ Config.slotMax) :
      HostStep s (.slotWrite i b) { s.setSlot i b with reply := .nothing }
  | resets : HostStep s .reset { State.reset with schedule := s.schedule }

theorem hostStep_of_host {s t : State} {tx : HostTx} (h : State.host s tx = .next t) : HostStep s tx t := by
  cases tx with
  | csrRead n => cases h; exact .replies _ _
  | csrWrite n v =>
    simp only [State.host] at h
    split at h
    · cases h; exact .refuses _ _ ‹_› nofun nofun
    rename_i hbusy
    split at h
    · cases h; exact .issues n v
    split at h
    · cases h; exact .setsHigh n v (by simpa using hbusy)
    · cases h; exact .replies _ _
  | slotWrite i b =>
    simp only [State.host, overSlotMax_eq, decide_eq_true_eq] at h
    split at h
    · cases h
    split at h
    · cases h; exact .refuses _ _ ‹_› nofun nofun
    · cases h; exact .writes i b (by omega)
  | slotRead i =>
    simp only [State.host] at h
    split at h
    · cases h; exact .refuses _ _ ‹_› nofun nofun
    · cases h; exact .replies _ _
  | reset => cases h; exact .resets

/-- R65, R410: PROTO after a transaction. -/
theorem host_proto {s t : State} {tx : HostTx} (h : State.host s tx = .next t) :
    t.proto = s.proto ∨ (t.proto = true ∧ s.busy = true ∧ tx ≠ .reset ∧ ∀ n, tx ≠ .csrRead n) ∨
      (t.proto = false ∧ tx = .reset) := by
  cases hostStep_of_host h with
  | refuses _ _ hbusy hread hreset => exact .inr (.inl ⟨rfl, hbusy, hreset, hread⟩)
  | resets => exact .inr (.inr ⟨rfl, rfl⟩)
  | replies | issues | setsHigh | writes => exact .inl rfl

end Sys2Proof.Machine
end

section
/-! SUPPORT. The invariant of CORE's state (10_state.md R20, R28, R29, R32 to R35): what each operation keeps of it. -/

namespace Sys2Proof.Machine

open Sys2Proof

/-- The part of the invariant that speaks of slots, trust store and certificate table. -/
structure State.DataInv (s : State) : Prop where
  slots_fit : s.SlotsFit
  ts_wf : tsWf s.ts = true ∧ s.ts.length ≤ Config.tsCap
  ct_parsed : ∀ idx r, s.cert idx = some r → parseCertificate r.rawBytes = some r ∧ r.rawBytes.length ≤ Config.slotMax

theorem State.Inv.dataInv {s : State} (h : s.Inv) : s.DataInv := ⟨h.slots_le, h.ts_wf, h.ct_parsed⟩

/-- R372, R374, R375: what RESULT, RETVAL and ERRINFO hold together after a command. -/
structure RecordOk (c : ResultCode) (v e : Word32) : Prop where
  retval_zero : c ≠ .ok → c ≠ .validationFail → c ≠ .tsFull → v = 0
  reason : c = .validationFail → 1 ≤ v.toNat ∧ v.toNat ≤ 7
  errinfo_zero : c ≠ .badLength → c ≠ .validationFail → e = 0
  operand : c = .badLength → 1 ≤ e.toNat ∧ e.toNat ≤ 5

theorem recordOk_ok (v : Word32) : RecordOk .ok v 0 := by
  constructor <;> simp

theorem reason_code_bounds (r : Reason) : 1 ≤ r.code.toNat ∧ r.code.toNat ≤ 7 := by
  cases r <;> decide

/-- R375: what a failure records. -/
theorem recordOk_failure (f : Failure) (h : f.operandOk = true) : RecordOk f.result f.retval f.errinfo := by
  cases f with
  | validationFail reason position =>
    exact ⟨fun _ hne => absurd rfl hne, fun _ => reason_code_bounds reason, fun _ hne => absurd rfl hne, nofun⟩
  | badLength operand =>
    have hop : 1 ≤ operand ∧ operand ≤ 5 := by simpa [Failure.operandOk] using h
    have hmod : operand % 4294967296 = operand := Nat.mod_eq_of_lt (by omega)
    refine ⟨fun _ _ _ => rfl, nofun, fun hne => absurd rfl hne, fun _ => ?_⟩
    simpa [Failure.errinfo, hmod] using hop
  | tsFull size => exact ⟨fun _ _ hne => absurd rfl hne, nofun, fun _ _ => rfl, nofun⟩
  | authFail | parseError | illegalCmd | operandAlias | badImm | overflow | badIndex | noCert =>
    exact ⟨fun _ _ _ => rfl, nofun, fun _ _ => rfl, nofun⟩

/-! The end of a command. -/

theorem State.DataInv.inv_finish {s : State} (h : s.DataInv) {c : ResultCode} {v e : Word32} (hr : RecordOk c v e) :
    (s.finish c v e).Inv where
  slots_le := h.slots_fit
  flags := by simp
  clear := by simp
  latched := by simp
  retval_zero := hr.retval_zero
  reason := hr.reason
  errinfo_zero := hr.errinfo_zero
  operand := hr.operand
  units_clear := rfl
  ts_wf := h.ts_wf
  ct_parsed := h.ct_parsed

theorem State.DataInv.setSlot {s : State} (h : s.DataInv) (i : Slot) {b : Bytes} (hb : b.length ≤ Config.slotMax) :
    (s.setSlot i b).DataInv where
  slots_fit j := by
    rw [State.slot_setSlot]
    split
    · exact hb
    · exact h.slots_fit j
  ts_wf := h.ts_wf
  ct_parsed := h.ct_parsed

theorem State.DataInv.setSlots {s : State} (h : s.DataInv) {ws : List (Slot × Bytes)}
    (hws : ∀ w ∈ ws, w.2.length ≤ Config.slotMax) : (s.setSlots ws).DataInv := by
  induction ws generalizing s with
  | nil => exact h
  | cons w ws ih =>
    rw [List.forall_mem_cons] at hws
    exact ih (h.setSlot w.1 hws.1) hws.2

theorem State.DataInv.inv_succeed {s : State} (h : s.DataInv) {ws : List (Slot × Bytes)} {v : Word32}
    (hws : ∀ w ∈ ws, w.2.length ≤ Config.slotMax) : (s.succeed ws v).Inv :=
  (h.setSlots hws).inv_finish (recordOk_ok v)

theorem State.DataInv.inv_raise {s : State} (h : s.DataInv) {ds : List Slot} {f : Failure} (hf : f.operandOk = true) :
    (s.raise ds f).Inv := by
  unfold State.raise
  split
  · exact (h.setSlots (by simp)).inv_finish (recordOk_failure f hf)
  · exact h.inv_finish (recordOk_failure f hf)

/-! CERT_PARSE: a record holds the bytes it was parsed from. -/

theorem walkCertificate_rawBytes {buf : Bytes} {tbs sigAlg sig : Element} {r : CertRecord}
    (h : walkCertificate buf tbs sigAlg sig = some r) : r.rawBytes = buf := by
  unfold walkCertificate at h
  split at h
  · simp only [Option.bind_eq_bind, Option.bind_eq_some_iff] at h
    obtain ⟨⟨version, ch⟩, -, h⟩ := h
    split at h
    · split at h
      · simp only [Option.bind_eq_some_iff] at h
        obtain ⟨_, -, _, -, _, -, _, -, _, -, _, -, _, -, _, -, h⟩ := h
        cases h
        rfl
      · cases h
    · cases h
  · cases h

theorem parseCertificate_rawBytes {buf : Bytes} {r : CertRecord} (h : parseCertificate buf = some r) :
    r.rawBytes = buf := by
  unfold parseCertificate at h
  split at h
  · split at h
    · split at h
      · exact walkCertificate_rawBytes h
      · cases h
    · cases h
  · cases h

theorem State.DataInv.setCert {s : State} (h : s.DataInv) (k : Nat) {record : Option CertRecord}
    (hr : ∀ r, record = some r → parseCertificate r.rawBytes = some r ∧ r.rawBytes.length ≤ Config.slotMax) :
    (s.setCert k record).DataInv where
  slots_fit := h.slots_fit
  ts_wf := h.ts_wf
  ct_parsed idx r hs := by
    rw [State.cert_setCert] at hs
    split at hs
    · exact hr r hs
    · exact h.ct_parsed idx r hs

/-! TS_ADD: the store stays a rising list of fingerprints (R34, log 9). -/

theorem mem_insertFingerprint (f g : Bytes) (ts : List Bytes) : g ∈ insertFingerprint f ts ↔ g = f ∨ g ∈ ts := by
  induction ts with
  | nil => simp [insertFingerprint]
  | cons x ts ih =>
    unfold insertFingerprint
    split
    · simp
    split
    · rename_i hx
      simp [hx]
    · simp [ih, or_left_comm]

theorem length_insertFingerprint (f : Bytes) (ts : List Bytes) (h : f ∉ ts) :
    (insertFingerprint f ts).length = ts.length + 1 := by
  induction ts with
  | nil => rfl
  | cons x ts ih =>
    rw [List.mem_cons, not_or] at h
    unfold insertFingerprint
    split
    · rfl
    rw [if_neg h.1, List.length_cons, ih h.2, List.length_cons]

theorem tsWf_iff (ts : List Bytes) :
    tsWf ts = true ↔ (∀ f ∈ ts, f.length = 32) ∧ ts.Pairwise fun a b => be a < be b := by
  simp [tsWf]

theorem tsWf_insertFingerprint {f : Bytes} (hf : f.length = 32) {ts : List Bytes} (h : tsWf ts = true) :
    tsWf (insertFingerprint f ts) = true := by
  rw [tsWf_iff] at h ⊢
  obtain ⟨hlen, hrise⟩ := h
  refine ⟨fun g hg => ?_, ?_⟩
  · rcases (mem_insertFingerprint f g ts).mp hg with rfl | hg
    · exact hf
    · exact hlen g hg
  induction ts with
  | nil => simp [insertFingerprint]
  | cons x ts ih =>
    rw [List.forall_mem_cons] at hlen
    have hx := List.pairwise_cons.mp hrise
    unfold insertFingerprint
    split
    · rename_i hlt
      refine List.pairwise_cons.mpr ⟨fun g hg => ?_, hrise⟩
      rcases List.mem_cons.mp hg with rfl | hg
      · exact hlt
      · exact hlt.trans (hx.1 g hg)
    split
    · exact hrise
    · rename_i hge hne
      have hgt : be x < be f :=
        lt_of_le_of_ne (not_lt.mp hge) fun he => hne (be_injective (hf.trans hlen.1.symm) he.symm)
      refine List.pairwise_cons.mpr ⟨fun g hg => ?_, ih hlen.2 hx.2⟩
      rcases (mem_insertFingerprint f g ts).mp hg with rfl | hg
      · exact hgt
      · exact hx.1 g hg

theorem State.DataInv.addFingerprint {s : State} (h : s.DataInv) {f : Bytes} (hf : f.length = 32) (hnew : f ∉ s.ts)
    (hroom : s.ts.length < Config.tsCap) : State.DataInv { s with ts := insertFingerprint f s.ts } where
  slots_fit := h.slots_fit
  ts_wf := ⟨tsWf_insertFingerprint hf h.ts_wf.1, by rw [length_insertFingerprint f s.ts hnew]; omega⟩
  ct_parsed := h.ct_parsed

/-- An allowed ending leaves a state that meets the invariant. -/
theorem State.DataInv.inv_apply {i : Instr} {s : State} (h : s.DataInv) {e : Ending} (he : e.Allowed i s) :
    (e.apply (destSlots i) s).Inv := by
  cases e with
  | fails f => exact h.inv_raise he.2
  | succeeds ws v => exact h.inv_succeed fun w hw => (he w hw).2 h.slots_fit
  | parses idx record =>
    obtain ⟨rs1, imm, rfl, rfl, rfl⟩ := he
    cases hp : parseCertificate (s.slot rs1) with
    | none => exact (h.setCert _ (by simp)).inv_raise rfl
    | some r =>
      refine (h.setCert _ fun r' hr => ?_).inv_succeed (by simp)
      obtain rfl : r = r' := by simpa using hr
      rw [parseCertificate_rawBytes hp]
      exact ⟨hp, h.slots_fit rs1⟩
  | trusts f =>
    obtain ⟨rs1, rfl, rfl, hnew, hroom⟩ := he
    exact (h.addFingerprint (length_shaHash .sha256 _) hnew hroom).inv_succeed (by simp)

/-- The invariant does not speak of PROTO, nor of the model's own fields (log 1, log 2). -/
theorem State.Inv.setOwn {s : State} (h : s.Inv) (proto : Bool) (schedule : List Turn) (reply : Reply) :
    State.Inv { s with proto := proto, schedule := schedule, reply := reply } :=
  { h with }

/-- The core's turn keeps the invariant. -/
theorem State.Inv.coreStep {s t : State} (h : s.Inv) (hs : coreStep s = .next t) : t.Inv := by
  obtain rfl | ⟨i, hi⟩ | rfl := coreStep_cases s t hs
  · exact h
  · obtain ⟨e, hallowed, he⟩ := exec_eq_apply i s
    obtain rfl : e.apply (destSlots i) s = t := by simpa using he.symm.trans hi
    exact h.dataInv.inv_apply hallowed
  · exact h.dataInv.inv_raise rfl

/-! The host's transactions. -/

theorem State.Inv.issue {s : State} (h : s.Inv) (v : Word32) : (s.issue v).Inv :=
  { h with
    flags := by simp
    clear := fun _ => ⟨rfl, rfl, rfl⟩
    latched := fun _ => by
      apply BitVec.eq_of_toNat_eq
      have := v.isLt
      have := s.cmdHi.isLt
      simp only [State.issue_cmdHi, State.issue_cmdReg, BitVec.extractLsb'_toNat, toNat_append_eq,
        Nat.shiftRight_eq_div_pow]
      omega
    retval_zero := fun _ _ _ => rfl
    reason := nofun
    errinfo_zero := fun _ _ => rfl
    operand := nofun }

theorem State.Inv.setCmdHi {s : State} (h : s.Inv) (hb : s.busy = false) (v : Word32) :
    State.Inv { s with cmdHi := v } :=
  { h with latched := fun hbusy => absurd (hb.symm.trans hbusy) nofun }

theorem State.Inv.setSlot {s : State} (h : s.Inv) (i : Slot) {b : Bytes} (hb : b.length ≤ Config.slotMax) :
    (s.setSlot i b).Inv :=
  { h with slots_le := (h.dataInv.setSlot i hb).slots_fit }

theorem State.cert_reset (k : Nat) : State.reset.cert k = none := by
  simp only [State.cert, State.reset, Vector.getElem?_replicate]
  split <;> rfl

theorem State.slot_reset (j : Slot) : State.reset.slot j = [] := by simp [State.slot, State.reset]

theorem State.inv_reset : State.reset.Inv where
  slots_le j := by simp [State.slot_reset]
  flags := nofun
  clear _ := ⟨rfl, rfl, rfl⟩
  latched := nofun
  retval_zero _ _ _ := rfl
  reason := nofun
  errinfo_zero _ _ := rfl
  operand := nofun
  units_clear := rfl
  ts_wf := ⟨rfl, Nat.zero_le _⟩
  ct_parsed idx r h := by simp [State.cert_reset] at h

/-- A transaction of the host keeps the invariant. -/
theorem State.Inv.host {s t : State} (h : s.Inv) {tx : HostTx} (ht : State.host s tx = .next t) : t.Inv := by
  cases hostStep_of_host ht with
  | replies _ reply => exact h.setOwn s.proto s.schedule reply
  | refuses _ reply => exact h.setOwn true s.schedule reply
  | issues n v => exact (h.issue v).setOwn s.proto s.schedule .nothing
  | setsHigh n v hidle => exact (h.setCmdHi hidle v).setOwn s.proto s.schedule .nothing
  | writes i b hfit => exact (h.setSlot i hfit).setOwn s.proto s.schedule .nothing
  | resets => exact State.inv_reset.setOwn false s.schedule .nothing

end Sys2Proof.Machine
end

section
/-! The statements about CORE's state and steps (10_state.md). -/

namespace Sys2Proof.Machine

open Sys2Proof

/-- Settles O6: the core's turn ends in an allowed ending of a command or holds the state, and a transaction of
the host is one of six updates (`HostStep`); each keeps the invariant. -/
theorem invariantKept : Obligations.InvariantKept := by
  intro s t h hs
  obtain ⟨rest, hcore⟩ | ⟨tx, rest, -, hhost⟩ := step_cases s t hs
  · exact (h.setOwn s.proto rest s.reply).coreStep hcore
  · exact (h.setOwn s.proto rest s.reply).host hhost

/-- Settles O14: the core keeps PROTO, and of the host's transactions one made while BUSY = 1 sets it and `Reset`
clears it. -/
theorem protoSticky : Obligations.ProtoSticky := by
  intro s t hs
  obtain ⟨rest, hcore⟩ | ⟨tx, rest, hturn, hhost⟩ := step_cases s t hs
  · have hkept : t.proto = s.proto := coreStep_proto { s with schedule := rest } t hcore
    exact ⟨fun h => .inl (hkept.trans h), fun h => .inl (hkept.symm.trans h)⟩
  · obtain hkept | ⟨hset, hbusy, hreset, hread⟩ | ⟨hclear, rfl⟩ := host_proto hhost
    · exact ⟨fun h => .inl (hkept.trans h), fun h => .inl (hkept.symm.trans h)⟩
    · exact ⟨fun _ => .inl hset, fun _ => .inr ⟨hbusy, tx, rest, hturn, hreset, hread⟩⟩
    · exact ⟨fun _ => .inr ⟨rest, hturn⟩, fun h => absurd (hclear.symm.trans h) nofun⟩

/-- Settles O16: every command ends with one allowed ending, and all endings end alike. -/
theorem everyCommandEnds : Obligations.EveryCommandEnds := by
  intro i s
  obtain ⟨e, hallowed, he⟩ := exec_eq_apply i s
  exact ⟨_, he, e.ended_apply (destSlots i) s, e.result_apply i s hallowed⟩

/-- Settles O20: the ending is the same for all flags, and what it leaves of them is PROTO. -/
theorem flagsNotRead : Obligations.FlagsNotRead := by
  intro i s busy done proto result retval errinfo units
  obtain ⟨e, -, he⟩ := exec_ends i s
  refine ⟨_, he s.flags, ?_⟩
  have h := he ⟨busy, done, proto, result, retval, errinfo, units⟩
  rwa [Ending.apply_withFlags] at h

/-- Settles O5, from the three cases of the core's turn. -/
theorem stepRunsDecoded : Obligations.StepRunsDecoded := by
  refine ⟨fun s i hb hi => ⟨fun hs => ?_, fun rest hs => ?_⟩, fun s hb hi => ⟨fun hs => ?_, fun rest hs => ?_⟩,
    fun s hb => ⟨fun hs => ?_, fun rest hs => ?_⟩⟩
  · exact (step_of_nil s hs).trans (coreStep_of_legal s i hb hi)
  · exact (step_of_core s rest hs).trans (coreStep_of_legal { s with schedule := rest } i hb hi)
  · exact (step_of_nil s hs).trans (coreStep_of_illegal s hb hi)
  · exact (step_of_core s rest hs).trans (coreStep_of_illegal { s with schedule := rest } hb hi)
  · exact (step_of_nil s hs).trans (coreStep_of_idle s hb)
  · exact (step_of_core s rest hs).trans (coreStep_of_idle { s with schedule := rest } hb)

/-- Settles O7. -/
theorem invariantAtReset : Obligations.InvariantAtReset := State.inv_reset

end Sys2Proof.Machine
end

section
/-! SUPPORT. What each host transaction does to the state (20_memory.md R61 to R65), the value of STATUS (10_state.md
R28), and a run of several steps. -/

namespace Sys2Proof.Machine

open Sys2Proof

/-! Transactions whose effect does not depend on BUSY. -/

theorem host_csrRead (s : State) (n : Word32) :
    State.host s (.csrRead n) = .next { s with reply := .word (s.csr n) } := rfl

theorem host_slotWrite_tooLong (s : State) (i : Slot) (b : Bytes) (hb : Config.slotMax < b.length) :
    State.host s (.slotWrite i b) = .fault .slotWriteTooLong := by
  simp [State.host, overSlotMax_eq, hb]

/-! Transactions while BUSY = 0. -/

theorem host_csrWrite_issue (s : State) (v : Word32) (h : s.busy = false) :
    State.host s (.csrWrite 0 v) = .next { s.issue v with reply := .nothing } := by
  simp [State.host, h]

theorem host_csrWrite_high (s : State) (v : Word32) (h : s.busy = false) :
    State.host s (.csrWrite 1 v) = .next { s with cmdHi := v, reply := .nothing } := by
  simp [State.host, h]

theorem host_csrWrite_ignored (s : State) (n v : Word32) (h : s.busy = false) (h0 : n ≠ 0#32)
    (h1 : n ≠ 1#32) :
    State.host s (.csrWrite n v) = .next { s with reply := .nothing } := by
  simp [State.host, h, h0, h1]

theorem host_slotWrite (s : State) (i : Slot) (b : Bytes) (h : s.busy = false) (hb : b.length ≤ Config.slotMax) :
    State.host s (.slotWrite i b) = .next { s.setSlot i b with reply := .nothing } := by
  simp [State.host, overSlotMax_eq, h, hb]

theorem host_slotRead (s : State) (i : Slot) (h : s.busy = false) :
    State.host s (.slotRead i) = .next { s with reply := .bytes (s.slot i) } := by
  simp [State.host, h]

/-! Transactions while BUSY = 1. -/

theorem host_csrWrite_busy (s : State) (n v : Word32) (h : s.busy = true) :
    State.host s (.csrWrite n v) = .next (s.protocolError .nothing) := by
  simp [State.host, h]

theorem host_slotWrite_busy (s : State) (i : Slot) (b : Bytes) (h : s.busy = true) (hb : b.length ≤ Config.slotMax) :
    State.host s (.slotWrite i b) = .next (s.protocolError .nothing) := by
  simp [State.host, overSlotMax_eq, h, hb]

theorem host_slotRead_busy (s : State) (i : Slot) (h : s.busy = true) :
    State.host s (.slotRead i) = .next (s.protocolError (.bytes [])) := by
  simp [State.host, h]

/-! The registers `CsrRead` returns. -/

theorem toNat_bit (b : Bool) : (bit b).toNat = b.toNat := by cases b <;> rfl

/-- R28: STATUS as a number, BUSY, DONE and PROTO in bits 0 to 2 and RESULT from bit 8. -/
theorem State.toNat_status (s : State) :
    s.status.toNat = s.busy.toNat + 2 * s.done.toNat + 4 * s.proto.toNat + 256 * s.result.code.toNat := by
  simp only [State.status, toNat_append_eq, toNat_bit, BitVec.toNat_ofNat]
  omega

theorem State.csr_unassigned (s : State) (n : Word32) (h : n = 0 ∨ 4 < n.toNat) : s.csr n = 0 := by
  obtain rfl | h := h
  · rfl
  · have hne (k : Word32) (hk : k.toNat ≤ 4) : n ≠ k := fun e => by subst e; omega
    rw [State.csr, if_neg (hne 1#32 (by decide)), if_neg (hne 2#32 (by decide)), if_neg (hne 3#32 (by decide)),
      if_neg (hne 4#32 (by decide))]
    rfl

/-! Runs, turn by turn. -/

theorem run_one (M : Host.Core) (s : M.State) : M.run 1 s = M.step s := by
  rw [Host.Core.run]
  cases M.step s <;> rfl

theorem run_succ (M : Host.Core) (k : Nat) {s t : M.State} (h : M.step s = .next t) :
    M.run (k + 1) s = M.run k t := by
  rw [Host.Core.run, h]

theorem run_host (k : Nat) {s t : State} {tx : HostTx} {rest : List Turn} (hs : s.schedule = .host tx :: rest)
    (h : State.host { s with schedule := rest } tx = .next t) :
    Sys2Proof.core.run (k + 1) s = Sys2Proof.core.run k t :=
  run_succ core k ((step_of_host s tx rest hs).trans h)

/-- R30 (1): the core's turn on a legal command word, as the last of a run. -/
theorem run_command {s : State} {i : Instr} {rest : List Turn} (hs : s.schedule = .core :: rest)
    (hbusy : s.busy = true) (hi : decode s.cmdReg = .ok i) :
    Sys2Proof.core.run 1 s = exec i { s with schedule := rest } :=
  (run_one core s).trans ((step_of_core s rest hs).trans (coreStep_of_legal _ i hbusy hi))

end Sys2Proof.Machine
end

section
/-! The statements about host transactions (20_memory.md). -/

namespace Sys2Proof.Machine

open Sys2Proof

/-- Settles O15: the host's two writes, then the core's turn on the word they left in CMDREG. -/
theorem commandCycle : Obligations.CommandCycle := by
  intro s hi lo i rest hidle hword hs
  have hissued := calc Sys2Proof.core.run 3 s
    _ = Sys2Proof.core.run 2
          { s with cmdHi := hi, schedule := .host (.csrWrite 0 lo) :: .core :: rest, reply := .nothing } :=
        run_host 2 hs (host_csrWrite_high _ hi hidle)
    _ = Sys2Proof.core.run 1
          { s with
            cmdHi := hi, cmdReg := hi ++ lo, busy := true, done := false, result := .ok, retval := 0, errinfo := 0,
            schedule := .core :: rest, reply := .nothing } :=
        run_host 1 rfl (host_csrWrite_issue _ lo hidle)
  exact hissued.trans (run_command rfl rfl hword)

/-- Settles O9: the value is `State.csr`, taken register by register. -/
theorem csrReads : Obligations.CsrReads := by
  intro s n rest hs
  refine ⟨⟨s.csr n, (step_of_host s _ _ hs).trans (host_csrRead _ n), ?_, ?_, ?_, ?_, s.csr_unassigned n⟩, rfl⟩
  · rintro rfl; rfl
  · rintro rfl; exact s.toNat_status
  · rintro rfl; rfl
  · rintro rfl; rfl

/-- Settles O10, from the slots' read-after-write rule `State.slot_setSlot`. -/
theorem slotWriteThenRead : Obligations.SlotWriteThenRead := by
  intro s i j b rest hidle hb hs
  refine ⟨_, (step_of_host s _ _ hs).trans (host_slotWrite _ i b hidle hb), fun k => s.slot_setSlot i k b, rfl, ?_⟩
  rw [← s.slot_setSlot i j b]
  exact (step_of_host _ _ rest rfl).trans (host_slotRead _ j hidle)

/-- Settles O11. -/
theorem tooLongSlotWriteStops : Obligations.TooLongSlotWriteStops := fun s i b _ hb hs =>
  (step_of_host s _ _ hs).trans (host_slotWrite_tooLong _ i b hb)

/-- Settles O12, by the number written to: 0, 1 or another. -/
theorem csrWrites : Obligations.CsrWrites := by
  intro s n v rest hidle hs
  rw [step_of_host s _ _ hs]
  by_cases h0 : n = 0
  · subst h0
    exact ⟨_, host_csrWrite_issue _ v hidle, by simp, fun _ => ⟨toNat_append_eq s.cmdHi v, rfl⟩, by simp⟩
  by_cases h1 : n = 1
  · subst h1
    exact ⟨_, host_csrWrite_high _ v hidle, fun _ => rfl, by simp, by simp⟩
  · exact ⟨_, host_csrWrite_ignored _ n v hidle h0 h1, fun h => absurd h h1, fun h => absurd h h0, fun _ => rfl⟩

/-- Settles O13: each of the three transactions is a protocol error. -/
theorem busyWindow : Obligations.BusyWindow := by
  intro s rest hbusy
  refine ⟨fun n v hs => ?_, fun i b hb hs => ?_, fun i hs => ?_⟩
  · exact (step_of_host s _ _ hs).trans (host_csrWrite_busy _ n v hbusy)
  · exact (step_of_host s _ _ hs).trans (host_slotWrite_busy _ i b hbusy hb)
  · exact (step_of_host s _ _ hs).trans (host_slotRead_busy _ i hbusy)

end Sys2Proof.Machine
end

section
/-! SUPPORT. The decoder row by row (30_encoding.md R92, R95): when a row of the table accepts some fields, and which
of them its instruction keeps. -/

namespace Sys2Proof

/-! Variants. -/

/-- R93: the `var` field that selects a variant. -/
def variantBits : Variant → BitVec 2
  | .sha256 => 0
  | .sha384 => 1
  | .sha512 => 2

theorem variantOf_eq_some_iff (b : BitVec 2) (v : Variant) : variantOf b = some v ↔ b = variantBits v := by
  revert b
  cases v <;> decide

/-- R93: only `var = 3` selects no variant. -/
theorem exists_variantOf_eq_some_iff (b : BitVec 2) : (∃ v, variantOf b = some v) ↔ b ≠ 3 := by
  rw [← Option.isSome_iff_exists]
  revert b
  decide

/-! Rows. -/

/-- A check passes and what follows it gives the value. -/
theorem ite_error_eq_ok_iff {ε α : Type} {c : Prop} [Decidable c] {e : ε} {x : Except ε α} {a : α} :
    (if c then .error e else x) = .ok a ↔ ¬c ∧ x = .ok a := by
  split <;> simp_all

/-- R92: the checks a row makes, and the instruction it gives when they pass. -/
theorem Row.decode_eq_ok_iff (r : Row) (f : Fields) (i : Instr) :
    r.decode f = .ok i ↔
      f.reserved = 0 ∧ (r.uses.var = true ∨ f.var = 0) ∧ r.uses.unusedSlotsZero f = true ∧
        (r.uses.imm = true ∨ f.imm = 0) ∧ ∃ v, variantOf f.var = some v ∧ r.build v f = i := by
  simp only [Row.decode, ite_error_eq_ok_iff, Bool.and_eq_true, Bool.not_eq_true', bne_iff_ne, ne_eq, not_and_or,
    not_not, Bool.not_eq_false]
  cases variantOf f.var <;> simp

/-- R91, R95: the fields of `f` that the row uses, with the variant `v` and the row's opcode; every other field 0. -/
def Row.kept (r : Row) (v : Variant) (f : Fields) : Fields where
  imm := if r.uses.imm then f.imm else 0
  rs5 := if r.uses.rs5 then f.rs5 else 0
  rs4 := if r.uses.rs4 then f.rs4 else 0
  rs3 := if r.uses.rs3 then f.rs3 else 0
  rs2 := if r.uses.rs2 then f.rs2 else 0
  rs1 := if r.uses.rs1 then f.rs1 else 0
  rd2 := if r.uses.rd2 then f.rd2 else 0
  rd := if r.uses.rd then f.rd else 0
  var := if r.uses.var then variantBits v else 0
  opcode := r.opcode

/-- R95: a row's instruction has every field the row uses as an operand, and no other. -/
theorem Row.fields_build {r : Row} (h : r ∈ rows) (v : Variant) (f : Fields) : (r.build v f).fields = r.kept v f := by
  revert r
  simp only [rows, rowsSystem, rowsHash, rowsMac, rowsAes, rowsChaCha, rowsX25519, rowsDer, rowsCert,
    List.forall_mem_append, List.forall_mem_cons, List.not_mem_nil, false_imp_iff, implies_true, and_true]
  and_intros
  all_goals cases v <;> rfl

theorem ite_zero_eq_self {n : Nat} {used : Bool} {x : BitVec n} (h : used = true ∨ x = 0) :
    (if used then x else 0) = x := by
  obtain rfl | rfl := h <;> simp

/-- What a row accepts it keeps whole. -/
theorem Row.kept_eq_self {r : Row} {f : Fields} {v : Variant} (hop : r.opcode = f.opcode) (hres : f.reserved = 0)
    (hvar : r.uses.var = true ∨ f.var = 0) (hslots : r.uses.unusedSlotsZero f = true)
    (himm : r.uses.imm = true ∨ f.imm = 0) (hv : variantOf f.var = some v) : r.kept v f = f := by
  simp only [Uses.unusedSlotsZero, Bool.and_eq_true, Bool.or_eq_true, beq_iff_eq] at hslots
  obtain ⟨⟨⟨⟨⟨⟨hrd, hrd2⟩, hrs1⟩, hrs2⟩, hrs3⟩, hrs4⟩, hrs5⟩ := hslots
  rw [Row.kept, ← (variantOf_eq_some_iff _ _).mp hv, ite_zero_eq_self himm, ite_zero_eq_self hrs5,
    ite_zero_eq_self hrs4, ite_zero_eq_self hrs3, ite_zero_eq_self hrs2, ite_zero_eq_self hrs1,
    ite_zero_eq_self hrd2, ite_zero_eq_self hrd, ite_zero_eq_self hvar, hop]
  cases f
  cases hres
  rfl

/-- R95: the row with an opcode uses what the table's columns say. -/
theorem Row.uses_eq {r : Row} (h : r ∈ rows) : r.uses = usesOf r.opcode.toNat := by
  have hrows := rows_uses
  rw [← rows_opcodes, List.map_map] at hrows
  exact List.map_inj_left.mp hrows r h

/-! The table. -/

/-- R97 (a): an assigned opcode has a row. -/
theorem opcodeOk_iff (f : Fields) : f.opcodeOk = true ↔ ∃ r ∈ rows, r.opcode = f.opcode := by
  rw [Fields.opcodeOk, ← rows_opcodes]
  simp [BitVec.toNat_inj]

/-- R92: decoding is by a row with the word's opcode. -/
theorem decodeFields_cases (f : Fields) :
    f.opcodeOk = false ∧ decodeFields f = .error .unassignedOpcode ∨
      ∃ r ∈ rows, r.opcode = f.opcode ∧ decodeFields f = r.decode f := by
  unfold decodeFields
  split
  · rename_i hnone
    refine .inl ⟨?_, rfl⟩
    rw [← Bool.not_eq_true, opcodeOk_iff]
    simpa using hnone
  · rename_i r hfind
    exact .inr ⟨r, List.mem_of_find?_eq_some hfind, by simpa using List.find?_some hfind, rfl⟩

/-- R97 (b) to (e): the four checks on the fields are those of the row with their opcode. -/
theorem Row.exists_decode_iff {r : Row} (hr : r ∈ rows) {f : Fields} (hop : r.opcode = f.opcode) :
    (∃ i, r.decode f = .ok i) ↔
      f.reservedOk = true ∧ f.variantOk = true ∧ f.slotsOk = true ∧ f.immOk = true := by
  have huses : usesOf f.opcode.toNat = r.uses := by rw [← hop, ← Row.uses_eq hr]
  have hslots : f.slotsOk = r.uses.unusedSlotsZero f := by rw [← huses]; rfl
  have hvar : f.variantOk = true ↔ (r.uses.var = true ∨ f.var = 0) ∧ ∃ v, variantOf f.var = some v := by
    rw [exists_variantOf_eq_some_iff, Fields.variantOk, huses]
    cases r.uses.var
    · simp +contextual
    · simp
  have himm : f.immOk = true ↔ r.uses.imm = true ∨ f.imm = 0 := by
    simp [Fields.immOk, huses]
  rw [hvar, hslots, himm, Fields.reservedOk, beq_iff_eq]
  simp only [Row.decode_eq_ok_iff]
  constructor
  · rintro ⟨i, hres, hv, hs, hi, v, hsome, -⟩
    exact ⟨hres, ⟨hv, v, hsome⟩, hs, hi⟩
  · rintro ⟨hres, ⟨hv, v, hsome⟩, hs, hi⟩
    exact ⟨r.build v f, hres, hv, hs, hi, v, hsome, rfl⟩

end Sys2Proof
end

section
/-! The statements about the encoding (30_encoding.md). -/

namespace Sys2Proof

open Sys2Proof.Machine

/-- R92: the decoder on the fields of each instruction, for all operands: its row's opcode is found and its row's
checks pass. -/
theorem decodeFields_fields (i : Instr) : decodeFields i.fields = .ok i := by
  cases i <;> rfl

/-- R92: fields that decode are those of the instruction, because the row's checks leave no field that it drops. -/
theorem fields_eq_of_decodeFields {f : Fields} {i : Instr} (h : decodeFields f = .ok i) : i.fields = f := by
  obtain ⟨-, hnone⟩ | ⟨r, hmem, hop, hrow⟩ := decodeFields_cases f
  · cases hnone.symm.trans h
  · obtain ⟨hres, hvar, hslots, himm, v, hv, rfl⟩ := (r.decode_eq_ok_iff f i).mp (hrow.symm.trans h)
    exact (Row.fields_build hmem v f).trans (Row.kept_eq_self hop hres hvar hslots himm hv)

/-- R97: the fields that decode are the well-formed ones. -/
theorem exists_decodeFields_iff (f : Fields) : (∃ i, decodeFields f = .ok i) ↔ f.wellFormed = true := by
  obtain ⟨hop, hnone⟩ | ⟨r, hmem, hop, hrow⟩ := decodeFields_cases f
  · simp [Fields.wellFormed, hop, hnone]
  · have hassigned : f.opcodeOk = true := (opcodeOk_iff f).mpr ⟨r, hmem, hop⟩
    simp only [hrow, Row.exists_decode_iff hmem hop, Fields.wellFormed, hassigned, Bool.and_eq_true, true_and,
      and_assoc]

/-- Settles O1: the word's fields are the instruction's, and those decode to it. -/
theorem decodeEncode : Obligations.DecodeEncode := fun i =>
  (congrArg decodeFields (Fields.ofWord_toWord i.fields)).trans (decodeFields_fields i)

/-- Settles O2: the instruction's fields are the word's, and those make the word again. -/
theorem encodeDecode : Obligations.EncodeDecode := fun w _ h =>
  (congrArg Fields.toWord (fields_eq_of_decodeFields h)).trans (Fields.toWord_ofWord w)

/-- Settles O3: a word that is no command is ended by `State.illegal`, which raises ILLEGAL_CMD with no destination. -/
theorem legalWords : Obligations.LegalWords := by
  intro w
  have hlegal : (∃ i, decode w = .ok i) ↔ (Fields.ofWord w).wellFormed = true := exists_decodeFields_iff _
  refine ⟨hlegal, fun hw s hbusy hword => ?_⟩
  have hnone : ∀ i, decode s.cmdReg ≠ .ok i := fun i hi => by
    rw [hword] at hi
    exact absurd (hlegal.mp ⟨i, hi⟩) (by simp [hw])
  rw [coreStep_of_illegal s hbusy hnone]
  exact failsWith_raise_untouched s [] .illegalCmd rfl

/-- Settles O4. -/
theorem workedEncodings : Obligations.WorkedEncodings := by
  refine ⟨?_, ?_, ?_, ?_, ?_, ?_, ?_⟩ <;> decide

end Sys2Proof
end

section
/-! SUPPORT. Words and bytes in the hash units: eight words stored and read back, the blocks of a concatenation, the
message schedule as words in rising order, and the choice of a variant (40_hash.md R122 to R134). -/

namespace Sys2Proof.Machine

open Sys2Proof

/-! States held as bytes (R131). -/

/-- R70: the blocks of a concatenation of pieces that are each one block long are the pieces. -/
theorem chunks_flatMap {α : Type} {k : Nat} (hk : 0 < k) (f : α → Bytes) (hf : ∀ x, (f x).length = k) (xs : List α) :
    chunks k (xs.flatMap f) = xs.map f := by
  induction xs with
  | nil => rfl
  | cons x xs ih =>
    have hne : f x ++ xs.flatMap f ≠ [] := by
      rw [← List.length_pos_iff, List.length_append, hf]
      omega
    rw [List.flatMap_cons, chunks_cons k hk _ hne, List.take_left' (hf x), List.drop_left' (hf x), ih, List.map_cons]

/-- R13: a word of whole bytes is the number of its big-endian bytes. -/
theorem ofNat_be_toBe {w : Nat} (hw : 8 ∣ w) (x : BitVec w) : BitVec.ofNat w (be (toBe x.toNat (w / 8))) = x := by
  have hbytes : 256 ^ (w / 8) = 2 ^ w := by
    rw [show 256 = 2 ^ 8 from rfl, ← pow_mul, Nat.mul_div_cancel' hw]
  rw [be_toBe_of_lt _ _ (hbytes ▸ x.isLt), BitVec.ofNat_toNat, BitVec.setWidth_eq]

/-- R131: words stored big-endian are read back. -/
theorem loadWords_flatMap_toBe {w : Nat} (hw : 8 ∣ w) (hpos : 0 < w) (xs : List (BitVec w)) :
    loadWords w (xs.flatMap fun x => toBe x.toNat (w / 8)) = xs := by
  have hk : 0 < w / 8 := Nat.div_pos (Nat.le_of_dvd hpos hw) (by decide)
  rw [loadWords, chunks_flatMap hk _ (fun x => length_toBe _ _), List.map_map]
  exact List.map_id'' (ofNat_be_toBe hw) xs

/-- R131: a state stored as bytes is read back. -/
theorem loadEight_storeWords {w : Nat} (hw : 8 ∣ w) (hpos : 0 < w) (H : Eight w) : loadEight w (storeWords H) = H := by
  simp only [loadEight, storeWords, loadWords_flatMap_toBe hw hpos]
  rfl

/-- R135: a fold of compressions on words is the fold on the states stored as bytes. -/
theorem foldl_storeWords {w : Nat} (hw : 8 ∣ w) (hpos : 0 < w) (compress : Eight w → Bytes → Eight w) (H : Eight w)
    (blocks : List Bytes) :
    blocks.foldl (fun st blk => storeWords (compress (loadEight w st) blk)) (storeWords H) =
      storeWords (blocks.foldl compress H) :=
  List.foldl_hom storeWords fun H blk => by rw [loadEight_storeWords hw hpos]

/-! The words of the message schedule (R126, R127). -/

section
variable {w : Nat} (s0 s1 : BitVec w → BitVec w)

/-- R126, R127: from index 16 on every word of `W` is the recurrence's. -/
def FollowsRecurrence (W : List (BitVec w)) : Prop :=
  ∀ t, 16 ≤ t → t < W.length →
    W.getD t 0 = s1 (W.getD (t - 2) 0) + W.getD (t - 7) 0 + s0 (W.getD (t - 15) 0) + W.getD (t - 16) 0

theorem followsRecurrence_of_length_le {W : List (BitVec w)} (h : W.length ≤ 16) : FollowsRecurrence s0 s1 W :=
  fun t h16 ht => by omega

/-- R126, R127: the recurrence's next word, appended. -/
theorem FollowsRecurrence.append {W : List (BitVec w)} (h : FollowsRecurrence s0 s1 W) {x : BitVec w}
    (hx : x = s1 (W.getD (W.length - 2) 0) + W.getD (W.length - 7) 0 + s0 (W.getD (W.length - 15) 0) +
      W.getD (W.length - 16) 0) : FollowsRecurrence s0 s1 (W ++ [x]) := by
  intro t ht hlen
  have hold : ∀ k, k < W.length → (W ++ [x]).getD k 0 = W.getD k 0 := fun k hk => List.getD_append _ _ _ _ hk
  rw [List.length_append, List.length_singleton] at hlen
  rw [hold (t - 2) (by omega), hold (t - 7) (by omega), hold (t - 15) (by omega), hold (t - 16) (by omega)]
  by_cases hnew : t = W.length
  · subst hnew
    rw [List.getD_append_right _ _ _ _ le_rfl, Nat.sub_self, List.getD_cons_zero, hx]
  · rw [hold t (by omega)]
    exact h t ht (by omega)

theorem length_scheduleFrom (n : Nat) (r : List (BitVec w)) : (scheduleFrom s0 s1 n r).length = r.length + n := by
  induction n generalizing r with
  | zero => rfl
  | succ n ih =>
    rw [scheduleFrom, ih, List.length_cons]
    omega

/-- R126, R127: the words so far, newest first, stay at the end. -/
theorem suffix_scheduleFrom (n : Nat) (r : List (BitVec w)) : r <:+ scheduleFrom s0 s1 n r := by
  induction n generalizing r with
  | zero => exact List.suffix_rfl
  | succ n ih => exact (List.suffix_cons _ r).trans (ih _)

/-- R126, R127: more words keep the recurrence. -/
theorem followsRecurrence_scheduleFrom (n : Nat) (r : List (BitVec w)) (h16 : 16 ≤ r.length)
    (h : FollowsRecurrence s0 s1 r.reverse) : FollowsRecurrence s0 s1 (scheduleFrom s0 s1 n r).reverse := by
  induction n generalizing r with
  | zero => exact h
  | succ n ih =>
    refine ih _ (by rw [List.length_cons]; omega) ?_
    rw [List.reverse_cons]
    have hat : ∀ k, k < 16 → r.getD k 0 = r.reverse.getD (r.reverse.length - (k + 1)) 0 := fun k hk => by
      rw [List.length_reverse, List.getD_reverse _ (by omega)]
      congr 1
      omega
    refine h.append s0 s1 ?_
    rw [hat 1 (by decide), hat 6 (by decide), hat 14 (by decide), hat 15 (by decide)]

variable (n : Nat) {blk : Bytes} {k : Nat}

/-- R126, R127: a block of `16 * k` bytes is 16 words of `k` bytes. -/
theorem length_loadWords (hk : w / 8 = k) (hpos : 0 < k) (hb : blk.length = 16 * k) : (loadWords w blk).length = 16 := by
  rw [loadWords, List.length_map, hk, length_chunks k hpos, hb]
  exact Nat.div_eq_of_lt_le (by omega) (by rw [Nat.succ_mul]; omega)

/-- R126, R127: word `t` of a sequence. -/
theorem getD_loadWords (hk : w / 8 = k) (hpos : 0 < k) {t : Nat} (ht : t * k < blk.length) :
    (loadWords w blk).getD t 0 = BitVec.ofNat w (be (slice blk (k * t) (k * t + k))) := by
  rw [loadWords, List.getD_eq_getElem?_getD, List.getElem?_map, hk, getElem?_chunks k hpos, if_pos ht, Nat.mul_comm k t]
  rfl

theorem length_messageSchedule (hn : 16 ≤ n) (hk : w / 8 = k) (hpos : 0 < k) (hb : blk.length = 16 * k) :
    (messageSchedule s0 s1 n blk).length = n := by
  rw [messageSchedule, List.length_reverse, length_scheduleFrom, List.length_reverse, length_loadWords hk hpos hb]
  omega

/-- R126, R127: the schedule begins with the words of the block. -/
theorem messageSchedule_eq_append (blk : Bytes) : ∃ rest, messageSchedule s0 s1 n blk = loadWords w blk ++ rest := by
  obtain ⟨newer, h⟩ := suffix_scheduleFrom s0 s1 (n - 16) (loadWords w blk).reverse
  exact ⟨newer.reverse, by rw [messageSchedule, ← h, List.reverse_append, List.reverse_reverse]⟩

/-- R126, R127: the first 16 words. -/
theorem getD_messageSchedule_of_lt (hk : w / 8 = k) (hpos : 0 < k) (hb : blk.length = 16 * k) {t : Nat} (ht : t < 16) :
    (messageSchedule s0 s1 n blk).getD t 0 = BitVec.ofNat w (be (slice blk (k * t) (k * t + k))) := by
  obtain ⟨rest, hrest⟩ := messageSchedule_eq_append s0 s1 n blk
  have hlen := length_loadWords hk hpos hb
  have hword : t * k < blk.length := hb ▸ Nat.mul_lt_mul_of_pos_right ht hpos
  rw [hrest, List.getD_append _ _ _ _ (hlen.symm ▸ ht), getD_loadWords hk hpos hword]

/-- R126, R127: the other words. -/
theorem followsRecurrence_messageSchedule (hk : w / 8 = k) (hpos : 0 < k) (hb : blk.length = 16 * k) :
    FollowsRecurrence s0 s1 (messageSchedule s0 s1 n blk) := by
  have hlen := length_loadWords hk hpos hb
  refine followsRecurrence_scheduleFrom s0 s1 (n - 16) _ (by rw [List.length_reverse, hlen]) ?_
  rw [List.reverse_reverse]
  exact followsRecurrence_of_length_le s0 s1 hlen.le

/-- R126, R127: all the words of a schedule of `n` words. -/
theorem messageSchedule_words (hn : 16 ≤ n) (hk : w / 8 = k) (hpos : 0 < k) (hb : blk.length = 16 * k) :
    let W := messageSchedule s0 s1 n blk
    W.length = n ∧ (∀ t, t < 16 → W.getD t 0 = BitVec.ofNat w (be (slice blk (k * t) (k * t + k)))) ∧
    (∀ t, 16 ≤ t → t < n →
      W.getD t 0 = s1 (W.getD (t - 2) 0) + W.getD (t - 7) 0 + s0 (W.getD (t - 15) 0) + W.getD (t - 16) 0) := by
  have hlen := length_messageSchedule s0 s1 n hn hk hpos hb
  exact ⟨hlen, fun t => getD_messageSchedule_of_lt s0 s1 n hk hpos hb,
    fun t h16 ht => followsRecurrence_messageSchedule s0 s1 n hk hpos hb t h16 (hlen.symm ▸ ht)⟩

end

/-! The padding (R122). -/

/-- R122: `padZeros` completes the block. -/
theorem padZeros_completes (v : Variant) (n : Nat) : (n + 1 + padZeros v n + lengthField v) % blockLen v = 0 := by
  cases v <;> simp only [padZeros, blockLen, lengthField] <;> omega

theorem padZeros_lt (v : Variant) (n : Nat) : padZeros v n < blockLen v := Nat.mod_lt _ (blockLen_pos v)

/-- R122: fewer zero bytes do not complete the block, since two counts that do differ by a multiple of it. -/
theorem padZeros_le (v : Variant) {n z : Nat} (h : (n + 1 + z + lengthField v) % blockLen v = 0) : padZeros v n ≤ z := by
  by_contra hlt
  have hcompl := padZeros_completes v n
  have hdvd : blockLen v ∣ padZeros v n - z := by
    have := Nat.dvd_sub (Nat.dvd_of_mod_eq_zero hcompl) (Nat.dvd_of_mod_eq_zero h)
    rwa [show n + 1 + padZeros v n + lengthField v - (n + 1 + z + lengthField v) = padZeros v n - z by omega] at this
  have := Nat.le_of_dvd (by omega) hdvd
  have := padZeros_lt v n
  omega

/-- R122: the length field has 8 or 16 bytes, and 8 hold the bit length of any slot. -/
theorem bitLength_lt (v : Variant) {n : Nat} (h : n ≤ Config.slotMax) : 8 * n < 256 ^ lengthField v := by
  have h8 : 8 ≤ lengthField v := by cases v <;> decide
  have hmax := slotMax_bounds.2
  calc 8 * n < 256 ^ 8 := by omega
    _ ≤ 256 ^ lengthField v := Nat.pow_le_pow_right (by decide) h8

/-! The initial states (R124, R125, R133). -/

theorem ivBytes_sha256 :
    ivBytes .sha256 = toBe 0x6a09e667bb67ae853c6ef372a54ff53a510e527f9b05688c1f83d9ab5be0cd19 32 := by decide

theorem ivBytes_sha384 :
    ivBytes .sha384 = toBe 0xcbbb9d5dc1059ed8629a292a367cd5079159015a3070dd17152fecd8f70e593967332667ffc00b318eb44a8768581511db0c2e0d64f98fa747b5481dbefa4fa4 64 := by
  decide

theorem ivBytes_sha512 :
    ivBytes .sha512 = toBe 0x6a09e667f3bcc908bb67ae8584caa73b3c6ef372fe94f82ba54ff53a5f1d36f1510e527fade682d19b05688c2b3e6c1f1f83d9abfb41bd6b5be0cd19137e2179 64 := by
  decide

/-! The meaning of a command with a variant (R93). -/

section
variable (v : Variant) (rd rs1 rs2 : Slot) (s : State)

theorem exec_hashInstr : exec (hashInstr v rd rs1) s = hashCommand v rd rs1 s := by cases v <;> rfl

theorem exec_compressInstr : exec (compressInstr v rd rs1 rs2) s = compressCommand v rd rs1 rs2 s := by cases v <;> rfl

theorem exec_padInstr : exec (padInstr v rd rs1) s = padCommand v rd rs1 s := by cases v <;> rfl

/-- R133: SHA_IV completes whatever the state. -/
theorem ivCommand_completes : CompletesOk (ivCommand v rd s) s (written s rd (ivBytes v)) 0 :=
  completesOk_one s rd (ivBytes v) 0

/-- R128 to R130: HASH completes whatever the message. -/
theorem hashCommand_completes : CompletesOk (hashCommand v rd rs1 s) s (written s rd (shaHash v (s.slot rs1))) 0 :=
  completesOk_one s rd _ 0

end

end Sys2Proof.Machine
end

section
/-! The statements about the hash commands (40_hash.md). -/

namespace Sys2Proof.Machine

open Sys2Proof

/-- Settles O23: `padZeros` is a count that completes the block and is below the block length, so the least one. -/
theorem paddingRule : Obligations.PaddingRule := fun v m =>
  ⟨⟨padZeros v m.length, rfl, padZeros_completes v m.length, fun _ h => padZeros_le v h⟩, length_shaPad v m,
    fun h => be_toBe_of_lt _ _ (bitLength_lt v h)⟩

/-- Settles O24: the one check is of the padded length. -/
theorem padCommands : Obligations.PadCommands := by
  intro v s rd rs1
  rw [exec_padInstr, length_shaPad, ← paddedLen]
  refine ⟨fun hfits => ?_, fun hover => ?_⟩
  · have hcheck : firstFailure [checkFits (paddedLen v (s.slot rs1).length)] = none := by
      rw [(checkFits_eq_none_iff _).mpr hfits, firstFailure_none, firstFailure_nil]
    rw [padCommand, State.run_of_none _ _ _ _ hcheck, countWord_of_le _ ((Nat.div_le_self _ _).trans hfits)]
    exact completesOk_one s rd _ _
  · have hcheck : firstFailure [checkFits (paddedLen v (s.slot rs1).length)] = some .overflow := by
      rw [checkFits_eq, if_pos hover, firstFailure_some]
    rw [padCommand, State.run_of_some _ _ _ _ _ hcheck]
    exact failsWith_raise s [rd] .overflow rfl

/-- Settles O26: the state's length is checked first, then the block's. -/
theorem compressCommands : Obligations.CompressCommands := by
  intro v s rd rs1 rs2
  rw [exec_compressInstr, compressCommand]
  refine ⟨fun hstate hblock => ?_, fun hstate => ?_, fun hstate hblock => ?_⟩
  · rw [State.run_of_none _ _ _ _ (by simp [hstate, hblock])]
    cases v <;> exact completesOk_one s rd _ 0
  · rw [State.run_of_some _ _ _ _ (.badLength 1) (by simp [hstate])]
    exact failsWith_raise s [rd] (.badLength 1) rfl
  · rw [State.run_of_some _ _ _ _ (.badLength 2) (by simp [hstate, hblock])]
    exact failsWith_raise s [rd] (.badLength 2) rfl

/-- Settles O27: states are stored and read back between the compressions without loss. -/
theorem hashComposition : Obligations.HashComposition := by
  intro v m
  cases v with
  | sha256 => exact congrArg (List.take 32) (foldl_storeWords (by decide) (by decide) compress256 iv256 _).symm
  | sha384 => exact congrArg (List.take 48) (foldl_storeWords (by decide) (by decide) compress512 iv384 _).symm
  | sha512 => exact congrArg (List.take 64) (foldl_storeWords (by decide) (by decide) compress512 iv512 _).symm

/-- Settles O28, from the schedule of any number of words of any width; `messageSchedule` itself is the model's function. -/
theorem messageSchedule_holds : Obligations.MessageSchedule :=
  ⟨fun _ hb => messageSchedule_words smallSigma0W32 smallSigma1W32 64 (by decide) rfl (by decide) hb,
    fun _ hb => messageSchedule_words smallSigma0W64 smallSigma1W64 80 (by decide) rfl (by decide) hb⟩

/-- Settles O22: HASH has no check, and the digest is cut to its length. -/
theorem hashCommands : Obligations.HashCommands := by
  intro v s rd rs1
  rw [exec_hashInstr, length_shaHash]
  exact ⟨hashCommand_completes v rd rs1 s, by cases v <;> rfl⟩

/-- Settles O25: the three initial states, written out. -/
theorem ivCommands : Obligations.IvCommands := by
  intro s rd
  rw [← ivBytes_sha256, ← ivBytes_sha384, ← ivBytes_sha512]
  exact ⟨ivCommand_completes .sha256 rd s, ivCommand_completes .sha384 rd s, ivCommand_completes .sha512 rd s⟩

end Sys2Proof.Machine
end

section
/-! SUPPORT. The MAC and key-derivation units: the key block, the blocks of HKDF as a sequence, and the limits on the
output length (41_mac_kdf.md R150 to R157). -/

namespace Sys2Proof.Machine

open Sys2Proof

/-! The key block (R150). -/

theorem keyBlock_of_le {v : Variant} {key : Bytes} (h : key.length ≤ blockLen v) :
    keyBlock v key = key ++ zeros (blockLen v - key.length) := if_pos h

theorem keyBlock_of_lt {v : Variant} {key : Bytes} (h : blockLen v < key.length) :
    keyBlock v key = shaHash v key ++ zeros (blockLen v - hashLen v) := if_neg h.not_ge

theorem hashLen_le_blockLen (v : Variant) : hashLen v ≤ blockLen v := by cases v <;> decide

@[simp] theorem length_keyBlock (v : Variant) (key : Bytes) : (keyBlock v key).length = blockLen v := by
  rcases Nat.lt_or_ge (blockLen v) key.length with h | h
  · rw [keyBlock_of_lt h, List.length_append, length_shaHash, length_zeros,
      Nat.add_sub_cancel' (hashLen_le_blockLen v)]
  · rw [keyBlock_of_le h, List.length_append, length_zeros, Nat.add_sub_cancel' h]

/-! The blocks of HKDF (R154). -/

/-- R154: the block `T(i)`, with `T(0)` empty. -/
def expandBlock (v : Variant) (prk info : Bytes) : Nat → Bytes
  | 0 => []
  | i + 1 => hmac v prk (expandBlock v prk info i ++ info ++ toBe (i + 1) 1)

section
variable (v : Variant) (prk info : Bytes)

/-- R154: the `n` blocks after `T(i)`. -/
theorem expandBlocks_eq_flatten (n i : Nat) :
    expandBlocks v prk info n (i + 1) (expandBlock v prk info i) =
      ((List.range n).map fun j => expandBlock v prk info (i + j + 1)).flatten := by
  induction n generalizing i with
  | zero => rfl
  | succ n ih =>
    have hindex (j : Nat) : i + 1 + j + 1 = i + (j + 1) + 1 := by omega
    calc expandBlocks v prk info (n + 1) (i + 1) (expandBlock v prk info i)
        = expandBlock v prk info (i + 1) ++ expandBlocks v prk info n (i + 1 + 1) (expandBlock v prk info (i + 1)) := rfl
      _ = expandBlock v prk info (i + 1) ++ ((List.range n).map fun j => expandBlock v prk info (i + (j + 1) + 1)).flatten := by
        simp only [ih, hindex]
      _ = ((List.range (n + 1)).map fun j => expandBlock v prk info (i + j + 1)).flatten := by
        rw [List.range_succ_eq_map, List.map_cons, List.flatten_cons, List.map_map]
        rfl

/-- R154: fewer blocks are a first part of more blocks. -/
theorem expandBlocks_prefix {k n : Nat} (h : k ≤ n) (i : Nat) (t : Bytes) :
    expandBlocks v prk info k i t <+: expandBlocks v prk info n i t := by
  induction k generalizing n i t with
  | zero => exact List.nil_prefix
  | succ k ih =>
    obtain ⟨n, rfl⟩ : ∃ m, n = m + 1 := ⟨n - 1, by omega⟩
    exact (List.prefix_append_right_inj _).mpr (ih (Nat.le_of_succ_le_succ h) _ _)

/-- R154: a shorter output is a first part of a longer one, since both are first parts of the longer one's blocks. -/
theorem hkdfExpand_prefix {len' len : Nat} (h : len' ≤ len) : hkdfExpand v prk info len' <+: hkdfExpand v prk info len := by
  have hblocks : (len' + hashLen v - 1) / hashLen v ≤ (len + hashLen v - 1) / hashLen v :=
    Nat.div_le_div_right (by omega)
  exact List.prefix_of_prefix_length_le
    ((List.take_prefix _ _).trans (expandBlocks_prefix v prk info hblocks 1 [])) (List.take_prefix _ _) (by simpa using h)

end

/-! The limits on the output length (R155, R157). -/

/-- R157: the limit of R155 is below that of the label's two-byte length, which so never decides. -/
theorem expandLimit_le (v : Variant) : expandLimit v ≤ 65535 := by cases v <;> decide

/-- R155: the check of the output length passes. -/
theorem checkImm_of_le {v : Variant} {n : Nat} (h : n ≤ 255 * hashLen v) : checkImm (n ≤ expandLimit v) = none :=
  (checkImm_eq_none_iff _).mpr (decide_eq_true h)

/-- R155: the check of the output length fails. -/
theorem checkImm_of_lt {v : Variant} {n : Nat} (h : 255 * hashLen v < n) : checkImm (n ≤ expandLimit v) = some .badImm := by
  rw [decide_eq_false (show ¬n ≤ expandLimit v from h.not_ge), checkImm_false]

/-- R157: HKDF_EXPAND_LABEL checks the output length as HKDF_EXPAND does. -/
theorem labelLimit_eq (v : Variant) (n : Nat) : (n ≤ 65535 && n ≤ expandLimit v) = decide (n ≤ expandLimit v) := by
  rw [← Bool.decide_and, decide_eq_decide]
  exact and_iff_right_of_imp fun h => h.trans (expandLimit_le v)

/-- R156: the label structure, its parts side by side. -/
theorem hkdfLabel_eq (lab ctx : Bytes) (len : Nat) :
    hkdfLabel lab ctx len = toBe len 2 ++ toBe (6 + lab.length) 1 ++ [0x74, 0x6c, 0x73, 0x31, 0x33, 0x20] ++ lab ++
      toBe ctx.length 1 ++ ctx := by
  simp only [hkdfLabel, List.append_assoc]
  rfl

/-! The meaning of a command with a variant (R93). -/

section
variable (v : Variant) (rd rs1 rs2 rs3 : Slot) (imm : Word32) (s : State)

theorem exec_hmacInstr : exec (hmacInstr v rd rs1 rs2) s = hmacCommand v rd rs1 rs2 s := by cases v <;> rfl

theorem exec_extractInstr : exec (extractInstr v rd rs1 rs2) s = extractCommand v rd rs1 rs2 s := by cases v <;> rfl

theorem exec_expandInstr : exec (expandInstr v rd rs1 rs2 imm) s = expandCommand v rd rs1 rs2 imm s := by cases v <;> rfl

theorem exec_expandLabelInstr :
    exec (expandLabelInstr v rd rs1 rs2 rs3 imm) s = expandLabelCommand v rd rs1 rs2 rs3 imm s := by cases v <;> rfl

/-- R152: HMAC completes whatever the key and the message. -/
theorem hmacCommand_completes :
    CompletesOk (hmacCommand v rd rs1 rs2 s) s (written s rd (hmac v (s.slot rs1) (s.slot rs2))) 0 :=
  completesOk_one s rd _ 0

/-- R153: HKDF_EXTRACT is HMAC with the salt as key. -/
theorem extractCommand_eq : extractCommand v rd rs1 rs2 s = hmacCommand v rd rs1 rs2 s := rfl

end

end Sys2Proof.Machine
end

section
/-! The statements about the MAC and key-derivation commands (41_mac_kdf.md). -/

namespace Sys2Proof.Machine

open Sys2Proof

/-- Settles O29: `k0` is the model's key block, and neither command has a check. -/
theorem hmacCommands : Obligations.HmacCommands := by
  intro v s rd rs1 rs2
  refine ⟨keyBlock v (s.slot rs1), length_keyBlock v _, keyBlock_of_le, keyBlock_of_lt, ?_⟩
  rintro i (rfl | rfl)
  · rw [exec_hmacInstr]
    exact hmacCommand_completes v rd rs1 rs2 s
  · rw [exec_extractInstr, extractCommand_eq]
    exact hmacCommand_completes v rd rs1 rs2 s

/-- Settles O30: the one check is of the output length. -/
theorem expandCommands : Obligations.ExpandCommands := by
  intro v s rd rs1 rs2 imm
  rw [exec_expandInstr, expandCommand]
  refine ⟨fun hfits => ⟨?_, length_hkdfExpand v _ _ _⟩, fun hover => ?_⟩
  · rw [State.run_of_none _ _ _ _ (by rw [checkImm_of_le hfits, firstFailure_none, firstFailure_nil])]
    exact completesOk_one s rd _ 0
  · rw [State.run_of_some _ _ _ _ .badImm (by rw [checkImm_of_lt hover, firstFailure_some])]
    exact failsWith_raise s [rd] .badImm rfl

/-- Settles O31: the model's blocks are the sequence `expandBlock`, and more blocks only add to the end. -/
theorem expandRecurrence : Obligations.ExpandRecurrence := by
  intro v prk info len
  refine ⟨⟨expandBlock v prk info, rfl, fun _ => rfl, ?_⟩, fun len' hle => ?_⟩
  · have hblocks := expandBlocks_eq_flatten v prk info ((len + hashLen v - 1) / hashLen v) 0
    simp only [Nat.zero_add] at hblocks
    exact congrArg (List.take len) hblocks
  · have hprefix := List.prefix_iff_eq_take.mp (hkdfExpand_prefix v prk info hle)
    rwa [length_hkdfExpand] at hprefix

/-- Settles O32: the output length is checked first, then the label's, then the context's. -/
theorem expandLabelCommands : Obligations.ExpandLabelCommands := by
  intro v s rd rs1 rs2 rs3 imm
  rw [exec_expandLabelInstr, expandLabelCommand, hkdfLabel_eq, labelLimit_eq]
  refine ⟨fun himm hlab hctx => ?_, fun himm => ?_, fun himm hlab => ?_, fun himm hlab hctx => ?_⟩
  · rw [State.run_of_none _ _ _ _ (by simp [checkImm_of_le himm, hlab, hctx])]
    exact completesOk_one s rd _ 0
  · rw [State.run_of_some _ _ _ _ .badImm (by rw [checkImm_of_lt himm, firstFailure_some])]
    exact failsWith_raise s [rd] .badImm rfl
  · rw [State.run_of_some _ _ _ _ (.badLength 2) (by simp [checkImm_of_le himm, hlab])]
    exact failsWith_raise s [rd] (.badLength 2) rfl
  · rw [State.run_of_some _ _ _ _ (.badLength 3) (by simp [checkImm_of_le himm, hlab, hctx])]
    exact failsWith_raise s [rd] (.badLength 3) rfl

end Sys2Proof.Machine
end

section
/-! SUPPORT. The AES-128 key schedule as words in rising order, counter mode byte by byte, and GCM's counter blocks and
tag comparison (42_aes_gcm.md R175, R185 to R190). -/

namespace Sys2Proof.Machine

open Sys2Proof

/-! The key schedule (R175). -/

theorem ofKeyWord_toKeyWord {b : Bytes} (h : b.length = 4) : ofKeyWord (toKeyWord b) = b := by
  obtain ⟨b0, b1, b2, b3, rfl⟩ := List.length_eq_four.mp h
  rfl

theorem xorBytes_ofKeyWord (t u : KeyWord) : xorBytes (ofKeyWord t) (ofKeyWord u) = ofKeyWord (xorKeyWord t u) := rfl

/-- R175: the word read outside a schedule. -/
def noWord : KeyWord := ⟨0, 0, 0, 0⟩

/-- R175: the four words of the key and the `n` words after them, newest first. -/
def newestWords (key : Bytes) (n : Nat) : List KeyWord :=
  (List.range' 4 n).foldl keyStep
    [toKeyWord (slice key 12 16), toKeyWord (slice key 8 12), toKeyWord (slice key 4 8), toKeyWord (slice key 0 4)]

/-- R175: the 44 words in rising order. -/
def keyWords (key : Bytes) : List KeyWord := (newestWords key 40).reverse

theorem aesKeyExpand_eq_flatMap (key : Bytes) : aesKeyExpand key = (keyWords key).flatMap ofKeyWord := rfl

theorem newestWords_succ (key : Bytes) (n : Nat) : newestWords key (n + 1) = keyStep (newestWords key n) (4 + n) := by
  simp [newestWords, List.range'_1_concat]

@[simp] theorem length_newestWords (key : Bytes) (n : Nat) : (newestWords key n).length = 4 + n := by
  simp [newestWords, length_foldl_keyStep]

@[simp] theorem length_keyWords (key : Bytes) : (keyWords key).length = 44 := by simp [keyWords]

/-- R175: the words so far stay behind the newer ones. -/
theorem drop_newestWords (key : Bytes) (n m : Nat) : (newestWords key (n + m)).drop m = newestWords key n := by
  induction m with
  | zero => rfl
  | succ m ih => rw [← Nat.add_assoc, newestWords_succ, keyStep, List.drop_succ_cons, ih]

/-- R175: word `i` of the schedule stands at `j` once `n` words have been added to the key's, the newest being
word `n + 3`. -/
theorem getD_keyWords (key : Bytes) {i j n : Nat} (hn : n ≤ 40) (hij : i + j = n + 3) :
    (keyWords key).getD i noWord = (newestWords key n).getD j noWord := by
  rw [keyWords, List.getD_reverse _ (by rw [length_newestWords]; omega), length_newestWords,
    ← drop_newestWords key n (40 - n), Nat.add_sub_cancel' hn, List.getD_eq_getElem?_getD, List.getD_eq_getElem?_getD,
    List.getElem?_drop]
  congr 2
  omega

/-- R175: the words of the key come first. -/
theorem getD_keyWords_of_lt (key : Bytes) {i : Nat} (hi : i < 4) :
    (keyWords key).getD i noWord = toKeyWord (slice key (4 * i) (4 * i + 4)) := by
  rw [getD_keyWords key (n := 0) (j := 3 - i) (by decide) (by omega)]
  match i, hi with
  | 0, _ => rfl
  | 1, _ => rfl
  | 2, _ => rfl
  | 3, _ => rfl

/-- R175: every other word comes of the word four before and the previous one. -/
theorem getD_keyWords_of_le (key : Bytes) {i : Nat} (hi : 4 ≤ i) (hlt : i < 44) :
    (keyWords key).getD i noWord = xorKeyWord ((keyWords key).getD (i - 4) noWord)
      (if i % 4 = 0 then rotSubRcon i ((keyWords key).getD (i - 1) noWord)
        else (keyWords key).getD (i - 1) noWord) := by
  rw [getD_keyWords key (i := i) (n := i - 4 + 1) (j := 0) (by omega) (by omega), newestWords_succ,
    Nat.add_sub_cancel' hi, keyStep, List.getD_cons_zero,
    getD_keyWords key (i := i - 4) (n := i - 4) (j := 3) (by omega) (by omega),
    getD_keyWords key (i := i - 1) (n := i - 4) (j := 0) (by omega) (by omega)]
  rfl

/-- R175: word `i` of the expanded key, as bytes. -/
theorem slice_aesKeyExpand (key : Bytes) {i : Nat} (hi : i < 44) :
    slice (aesKeyExpand key) (4 * i) (4 * i + 4) = ofKeyWord ((keyWords key).getD i noWord) := by
  have hwords := chunks_flatMap (by decide) ofKeyWord length_ofKeyWord (keyWords key)
  have hchunk := getElem?_chunks 4 (by decide) (aesKeyExpand key) i
  rw [length_aesKeyExpand, if_pos (by omega), aesKeyExpand_eq_flatMap, hwords, List.getElem?_map,
    List.getElem?_eq_getElem (by simpa using hi), Option.map_some, Option.some_inj, Nat.mul_comm i] at hchunk
  rw [aesKeyExpand_eq_flatMap, ← hchunk, List.getD_eq_getElem _ _ (by simpa using hi)]

/-! Counter mode (R185, R186). -/

theorem getD_xorBytes {a b : Bytes} {i : Nat} (ha : i < a.length) (hb : i < b.length) :
    (xorBytes a b).getD i 0 = a.getD i 0 ^^^ b.getD i 0 := by
  have hi : i < (xorBytes a b).length := by rw [length_xorBytes]; omega
  rw [List.getD_eq_getElem _ _ hi, List.getD_eq_getElem _ _ ha, List.getD_eq_getElem _ _ hb]
  exact List.getElem_zipWith

/-- R186: byte `i` of the output. -/
theorem getD_ctrChunks (rk : Bytes) (hrk : rk.length = 176) (cb data : Bytes) {i : Nat} (hi : i < data.length) :
    (ctrChunks rk cb (chunks 16 data)).getD i 0 =
      data.getD i 0 ^^^ (aesEncrypt rk (inc32^[i / 16] cb)).getD (i % 16) 0 := by
  induction data using chunks_induction (k := 16) (by decide) generalizing cb i with
  | nil => simp at hi
  | cons data hne ih =>
    have hblock : (xorBytes (data.take 16) (aesEncrypt rk cb)).length = min 16 data.length := by
      rw [length_xorBytes, length_aesEncrypt rk cb hrk, List.length_take]
      omega
    rw [chunks_cons 16 (by decide) data hne, ctrChunks]
    rcases Nat.lt_or_ge i 16 with hfirst | hlater
    · have htake : i < (data.take 16).length := by rw [List.length_take]; omega
      rw [List.getD_append _ _ _ _ (by omega), getD_xorBytes htake (by rw [length_aesEncrypt rk cb hrk]; exact hfirst),
        Nat.div_eq_of_lt hfirst, Nat.mod_eq_of_lt hfirst, Function.iterate_zero, id,
        List.getD_eq_getElem?_getD, List.getElem?_take_of_lt hfirst, ← List.getD_eq_getElem?_getD]
    · obtain ⟨j, rfl⟩ := Nat.exists_eq_add_of_le' hlater
      have hj : j < (data.drop 16).length := by rw [List.length_drop]; omega
      rw [List.getD_append_right _ _ _ _ (by omega), hblock, Nat.min_eq_left (by omega), Nat.add_sub_cancel, ih _ hj,
        Nat.add_div_right j (by decide), Nat.add_mod_right, Function.iterate_succ_apply,
        List.getD_eq_getElem?_getD, List.getElem?_drop, ← List.getD_eq_getElem?_getD, Nat.add_comm 16]

theorem getD_aesCtr (key icb data : Bytes) {i : Nat} (hi : i < data.length) :
    (aesCtr key icb data).getD i 0 =
      data.getD i 0 ^^^ (aesEncrypt (aesKeyExpand key) (inc32^[i / 16] icb)).getD (i % 16) 0 :=
  getD_ctrChunks _ (length_aesKeyExpand key) icb data hi

/-- R186: the same keystream twice cancels. -/
theorem aesCtr_aesCtr (key icb data : Bytes) : aesCtr key icb (aesCtr key icb data) = data := by
  refine List.ext_getElem (by simp) fun i _ hi => ?_
  have hi' : i < (aesCtr key icb data).length := by simpa using hi
  rw [← List.getD_eq_getElem _ 0, getD_aesCtr key icb _ hi', getD_aesCtr key icb data hi, BitVec.xor_assoc,
    BitVec.xor_self, BitVec.xor_zero, List.getD_eq_getElem _ _ hi]

theorem length_slice_twelve {cb : Bytes} (h : cb.length = 16) : (slice cb 0 12).length = 12 := by
  rw [length_slice]
  omega

theorem length_inc32 {cb : Bytes} (h : cb.length = 16) : (inc32 cb).length = 16 := by
  rw [inc32, List.length_append, length_slice_twelve h, length_toBe]

/-- R185: the first twelve bytes stay. -/
theorem slice_inc32_fixed {cb : Bytes} (h : cb.length = 16) : slice (inc32 cb) 0 12 = slice cb 0 12 :=
  List.take_left' (length_slice_twelve h)

/-- R185: the last four bytes count modulo 2^32. -/
theorem be_slice_inc32 {cb : Bytes} (h : cb.length = 16) :
    be (slice (inc32 cb) 12 16) = (be (slice cb 12 16) + 1) % 2 ^ 32 := by
  have htail : slice (inc32 cb) 12 16 = toBe ((be (slice cb 12 16) + 1) % 2 ^ 32) 4 := by
    rw [slice, inc32, List.drop_left' (length_slice_twelve h)]
    exact List.take_of_length_le (length_toBe _ _).le
  rw [htail]
  exact be_toBe_of_lt _ 4 (Nat.mod_lt _ (by decide))

/-! GCM (R188, 47_system.md R354). -/

/-- R354: no byte differs. -/
theorem diffBytes_eq_zero_iff {a b : Bytes} (h : a.length = b.length) : diffBytes a b = 0#8 ↔ a = b := by
  induction a generalizing b with
  | nil =>
    obtain rfl := List.length_eq_zero_iff.mp h.symm
    exact ⟨fun _ => rfl, fun _ => rfl⟩
  | cons x a ih =>
    cases b with
    | nil => simp at h
    | cons y b => rw [diffBytes, BitVec.or_eq_zero_iff, BitVec.xor_eq_zero_iff, ih (by simpa using h), List.cons.injEq]

/-- R354: `ct_equal` is equality. -/
theorem ctEqual_iff (a b : Bytes) : ctEqual a b = true ↔ a = b := by
  unfold ctEqual
  split
  case isTrue h => rw [beq_iff_eq, diffBytes_eq_zero_iff h]
  case isFalse h => exact ⟨fun hf => absurd hf Bool.false_ne_true, fun heq => absurd (congrArg List.length heq) h⟩

/-- R188: the counter block after J0 is the IV and counter 2. -/
theorem inc32_gcmJ0 {iv : Bytes} (h : iv.length = 12) : inc32 (gcmJ0 iv) = iv ++ [0, 0, 0, 2] := by
  have hfixed : slice (gcmJ0 iv) 0 12 = iv := List.take_left' h
  have hcounter : slice (gcmJ0 iv) 12 16 = [0, 0, 0, 1] := by rw [slice, gcmJ0, List.drop_left' h]; rfl
  rw [inc32, hfixed, hcounter]
  rfl

theorem gcmCtr_eq (key : Bytes) {iv : Bytes} (h : iv.length = 12) (data : Bytes) :
    gcmCtr key iv data = aesCtr key (iv ++ [0, 0, 0, 2]) data := by rw [gcmCtr, inc32_gcmJ0 h]

theorem gcmCtr_gcmCtr (key iv data : Bytes) : gcmCtr key iv (gcmCtr key iv data) = data := aesCtr_aesCtr _ _ _

/-- R188: the right tag releases the plaintext. -/
theorem gcmDecrypt_of_eq {key iv aad c tag : Bytes} (h : gcmTag key iv aad c = tag) :
    gcmDecrypt key iv aad c tag = some (gcmCtr key iv c) := if_pos ((ctEqual_iff _ _).mpr h)

/-- R188: a wrong tag releases nothing. -/
theorem gcmDecrypt_of_ne {key iv aad c tag : Bytes} (h : gcmTag key iv aad c ≠ tag) :
    gcmDecrypt key iv aad c tag = none := if_neg fun heq => h ((ctEqual_iff _ _).mp heq)

/-! What the commands check (R176 to R190). -/

/-- A command whose first failing check is of a length. -/
theorem failsWith_run_badLength (s : State) (ds : List Slot) (cs : List (Option Failure)) (body : Unit → State)
    (k : Nat) (h : firstFailure cs = some (.badLength k)) : FailsWith (s.run ds cs body) s ds (.badLength k) := by
  rw [State.run_of_some _ _ _ _ _ h]
  exact failsWith_raise s ds (.badLength k) rfl

/-- A command that passes its checks and writes one result. -/
theorem completesOk_run_one (s : State) (ds : List Slot) (cs : List (Option Failure)) (rd : Slot) (out : Bytes)
    (v : Word32) (h : firstFailure cs = none) :
    CompletesOk (s.run ds cs fun _ => s.succeed [(rd, out)] v) s (written s rd out) v := by
  rw [State.run_of_none _ _ _ _ h]
  exact completesOk_one s rd out v

section
variable (s : State) (rd rd2 rs1 rs2 rs3 rs4 rs5 : Slot)

theorem exec_aesKeyexp : exec (.aesKeyexp rd rs1) s = execAesKeyexp rd rs1 s := rfl

theorem exec_aesEnc : exec (.aesEnc rd rs1 rs2) s = execAesEnc rd rs1 rs2 s := rfl

theorem exec_gf128Mul : exec (.gf128Mul rd rs1 rs2) s = execGf128Mul rd rs1 rs2 s := rfl

theorem exec_ghash : exec (.ghash rd rs1 rs2 rs3) s = execGhash rd rs1 rs2 rs3 s := rfl

theorem exec_aesCtr : exec (.aesCtr rd rs1 rs2 rs3) s = execAesCtr rd rs1 rs2 rs3 s := rfl

theorem exec_gcmEnc : exec (.gcmEnc rd rd2 rs1 rs2 rs3 rs4) s = execGcmEnc rd rd2 rs1 rs2 rs3 rs4 s := rfl

theorem exec_gcmDec : exec (.gcmDec rd rs1 rs2 rs3 rs4 rs5) s = execGcmDec rd rs1 rs2 rs3 rs4 rs5 s := rfl

/-- The five primitive commands check the length of their first operand first. -/
theorem exec_checks_key : ∀ i ∈ [Instr.aesKeyexp rd rs1, .aesEnc rd rs1 rs2, .gf128Mul rd rs1 rs2,
    .ghash rd rs1 rs2 rs3, .aesCtr rd rs1 rs2 rs3],
    ∃ more body, exec i s = s.run [rd] (checkLength 1 (s.slot rs1) 16 :: more) body := by
  simp only [List.forall_mem_cons, exec_aesKeyexp, exec_aesEnc, exec_gf128Mul, exec_ghash, exec_aesCtr]
  exact ⟨⟨_, _, rfl⟩, ⟨_, _, rfl⟩, ⟨_, _, rfl⟩, ⟨_, _, rfl⟩, ⟨_, _, rfl⟩, List.forall_mem_nil _⟩

/-- Three of them check the length of their second operand next. -/
theorem exec_checks_block : ∀ i ∈ [Instr.aesEnc rd rs1 rs2, .gf128Mul rd rs1 rs2, .aesCtr rd rs1 rs2 rs3],
    ∃ body, exec i s = s.run [rd] [checkLength 1 (s.slot rs1) 16, checkLength 2 (s.slot rs2) 16] body := by
  simp only [List.forall_mem_cons, exec_aesEnc, exec_gf128Mul, exec_aesCtr]
  exact ⟨⟨_, rfl⟩, ⟨_, rfl⟩, ⟨_, rfl⟩, List.forall_mem_nil _⟩

/-- R189: an encryption that passes its checks. -/
theorem exec_gcmEnc_of_checks (hne : rd ≠ rd2) (hkey : (s.slot rs1).length = 16) (hiv : (s.slot rs2).length = 12) :
    exec (.gcmEnc rd rd2 rs1 rs2 rs3 rs4) s =
      .next (s.succeed
        [(rd, gcmCtr (s.slot rs1) (s.slot rs2) (s.slot rs4)),
          (rd2, gcmTag (s.slot rs1) (s.slot rs2) (s.slot rs3) (gcmCtr (s.slot rs1) (s.slot rs2) (s.slot rs4)))] 0) := by
  rw [exec_gcmEnc, execGcmEnc, State.run_of_none _ _ _ _ (by simp [hne, hkey, hiv])]
  rfl

/-- R190: a decryption that passes its checks and whose tag is right. -/
theorem gcmDec_completes (hkey : (s.slot rs1).length = 16) (hiv : (s.slot rs2).length = 12)
    (htag : (s.slot rs5).length = 16) (heq : gcmTag (s.slot rs1) (s.slot rs2) (s.slot rs3) (s.slot rs4) = s.slot rs5) :
    CompletesOk (exec (.gcmDec rd rs1 rs2 rs3 rs4 rs5) s) s
      (written s rd (gcmCtr (s.slot rs1) (s.slot rs2) (s.slot rs4))) 0 := by
  rw [exec_gcmDec, execGcmDec, State.run_of_none _ _ _ _ (by simp [hkey, hiv, htag]), gcmDecrypt_of_eq heq]
  exact completesOk_one s rd _ 0

/-- R190: a decryption that passes its checks and whose tag is wrong. -/
theorem gcmDec_authFails (hkey : (s.slot rs1).length = 16) (hiv : (s.slot rs2).length = 12)
    (htag : (s.slot rs5).length = 16) (hne : gcmTag (s.slot rs1) (s.slot rs2) (s.slot rs3) (s.slot rs4) ≠ s.slot rs5) :
    FailsWith (exec (.gcmDec rd rs1 rs2 rs3 rs4 rs5) s) s [rd] .authFail := by
  rw [exec_gcmDec, execGcmDec, State.run_of_none _ _ _ _ (by simp [hkey, hiv, htag]), gcmDecrypt_of_ne hne]
  exact failsWith_raise s [rd] .authFail rfl

end

end Sys2Proof.Machine
end

section
/-! SUPPORT. Blocks as polynomials over GF(2) and as residues modulo x^128 + x^7 + x^2 + x + 1, and what the loop of
GF128_MUL computes of them (42_aes_gcm.md R180, R181). -/

namespace Sys2Proof.Machine

open Sys2Proof Polynomial

/-! Polynomials. -/

/-- R180: the terms of a block below x^n, bit 127 - i being the coefficient of x^i. -/
@[irreducible] noncomputable def lowTerms (x : BitVec 128) (n : Nat) : (ZMod 2)[X] :=
  ∑ i ∈ Finset.range n, if x.getLsbD (127 - i) then X ^ i else 0

/-- R180: the polynomial of a block. -/
@[irreducible] noncomputable def blockPoly (x : BitVec 128) : (ZMod 2)[X] := lowTerms x 128

/-- R181: the modulus. Irreducible, since no proof should unfold its 128th power by accident. -/
@[irreducible] noncomputable def gf128Modulus : (ZMod 2)[X] := X ^ 128 + X ^ 7 + X ^ 2 + X + 1

theorem lowTerms_succ (x : BitVec 128) (n : Nat) :
    lowTerms x (n + 1) = lowTerms x n + if x.getLsbD (127 - n) then X ^ n else 0 := by
  simp only [lowTerms, Finset.sum_range_succ]

theorem coeff_blockPoly (x : BitVec 128) (k : Nat) :
    (blockPoly x).coeff k = if k < 128 ∧ x.getLsbD (127 - k) = true then 1 else 0 := by
  have hterm : ∀ i, (if x.getLsbD (127 - i) then (X : (ZMod 2)[X]) ^ i else 0).coeff k =
      if k = i then if x.getLsbD (127 - k) then 1 else 0 else 0 := fun i => by
    by_cases hki : k = i
    · subst hki; split <;> simp
    · split <;> simp [coeff_X_pow, hki]
  rw [blockPoly, lowTerms, finsetSum_coeff, Finset.sum_congr rfl fun i _ => hterm i, Finset.sum_ite_eq, ite_and]
  simp only [Finset.mem_range]

theorem coeff_blockPoly_of_lt (x : BitVec 128) {k : Nat} (h : k < 128) :
    (blockPoly x).coeff k = if x.getLsbD (127 - k) then 1 else 0 := by simp [coeff_blockPoly, h]

theorem coeff_blockPoly_of_le (x : BitVec 128) {k : Nat} (h : 128 ≤ k) : (blockPoly x).coeff k = 0 := by
  simp [coeff_blockPoly, h]

theorem degree_blockPoly_lt (x : BitVec 128) : (blockPoly x).degree < 128 :=
  (degree_lt_iff_coeff_zero _ 128).mpr fun _ h => coeff_blockPoly_of_le x h

theorem blockPoly_injective {x y : BitVec 128} (h : blockPoly x = blockPoly y) : x = y := by
  refine BitVec.eq_of_getLsbD_eq fun i hi => ?_
  have hcoeff := congrArg (coeff · (127 - i)) h
  simp only [coeff_blockPoly_of_lt _ (show 127 - i < 128 by omega), show 127 - (127 - i) = i by omega] at hcoeff
  cases hx : x.getLsbD i <;> cases hy : y.getLsbD i <;> simp_all

/-- R181: exclusive or of blocks is the sum of their polynomials. -/
theorem blockPoly_xor (x y : BitVec 128) : blockPoly (x ^^^ y) = blockPoly x + blockPoly y := by
  ext k
  rw [coeff_add]
  by_cases hk : k < 128
  · simp only [coeff_blockPoly_of_lt _ hk, BitVec.getLsbD_xor]
    cases x.getLsbD (127 - k) <;> cases y.getLsbD (127 - k) <;> decide
  · simp only [coeff_blockPoly_of_le _ (not_lt.mp hk), add_zero]

@[simp] theorem blockPoly_zero : blockPoly 0#128 = 0 := by simp [blockPoly, lowTerms]

/-- The block with a single bit set. -/
theorem blockPoly_twoPow {i : Nat} (h : i < 128) : blockPoly (BitVec.twoPow 128 (127 - i)) = X ^ i := by
  ext k
  rw [coeff_X_pow]
  by_cases hk : k < 128
  · rw [coeff_blockPoly_of_lt _ hk]
    simp only [BitVec.getLsbD_twoPow, Bool.and_eq_true, decide_eq_true_eq]
    exact if_congr (by omega) rfl rfl
  · rw [coeff_blockPoly_of_le _ (not_lt.mp hk), if_neg (by omega)]

/-- R181: the constant 0xe1 << 120 is the modulus without its leading term. -/
theorem blockPoly_reduction : blockPoly (0xe1#128 <<< 120) = X ^ 7 + X ^ 2 + X + 1 := by
  have hbits : 0xe1#128 <<< 120 =
      BitVec.twoPow 128 (127 - 7) ^^^ BitVec.twoPow 128 (127 - 2) ^^^ BitVec.twoPow 128 (127 - 1) ^^^
        BitVec.twoPow 128 (127 - 0) := by decide
  rw [hbits]
  simp only [blockPoly_xor, blockPoly_twoPow (show 7 < 128 by decide), blockPoly_twoPow (show 2 < 128 by decide),
    blockPoly_twoPow (show 1 < 128 by decide), blockPoly_twoPow (show 0 < 128 by decide), pow_one, pow_zero]

/-- R181: a shift to the right multiplies by x, but for the coefficient of x^127, which it drops. -/
theorem X_mul_blockPoly (v : BitVec 128) :
    X * blockPoly v = blockPoly (v >>> 1) + if v.getLsbD 0 then X ^ 128 else 0 := by
  ext k
  have hlead : (if v.getLsbD 0 then (X : (ZMod 2)[X]) ^ 128 else 0).coeff k =
      if k = 128 ∧ v.getLsbD 0 = true then 1 else 0 := by
    rw [apply_ite (coeff · k), coeff_X_pow, coeff_zero, ← ite_and]
    exact if_congr And.comm rfl rfl
  rw [coeff_add, hlead]
  cases k with
  | zero =>
    rw [coeff_X_mul_zero, coeff_blockPoly_of_lt _ (by decide), BitVec.getLsbD_ushiftRight,
      BitVec.getLsbD_of_ge _ _ (by decide)]
    simp
  | succ k =>
    rw [coeff_X_mul]
    rcases Nat.lt_trichotomy k 127 with hk | rfl | hk
    · rw [coeff_blockPoly_of_lt _ (by omega), coeff_blockPoly_of_lt _ (by omega), BitVec.getLsbD_ushiftRight,
        show 1 + (127 - (k + 1)) = 127 - k by omega, if_neg (show ¬(k + 1 = 128 ∧ _) by omega), add_zero]
    · rw [coeff_blockPoly_of_lt _ (by decide), coeff_blockPoly_of_le _ (by decide), zero_add]
      simp
    · rw [coeff_blockPoly_of_le _ (by omega), coeff_blockPoly_of_le _ (by omega),
        if_neg (show ¬(k + 1 = 128 ∧ _) by omega), add_zero]

/-! Residues. -/

theorem gf128Modulus_eq_add : gf128Modulus = X ^ 128 + (X ^ 7 + X ^ 2 + X + 1) := by
  unfold gf128Modulus
  ring

theorem degree_gf128Modulus : gf128Modulus.degree = 128 := by
  unfold gf128Modulus
  compute_degree!

theorem monic_gf128Modulus : gf128Modulus.Monic := by
  unfold gf128Modulus
  monicity!

/-- R181: the residue of a block modulo x^128 + x^7 + x^2 + x + 1. -/
noncomputable def blockResidue (x : BitVec 128) : AdjoinRoot gf128Modulus := AdjoinRoot.mk gf128Modulus (blockPoly x)

theorem blockResidue_injective {x y : BitVec 128} (h : blockResidue x = blockResidue y) : x = y := by
  rw [blockResidue, blockResidue, AdjoinRoot.mk_eq_mk] at h
  refine blockPoly_injective (sub_eq_zero.mp (eq_zero_of_dvd_of_degree_lt h ?_))
  rw [degree_gf128Modulus]
  exact (degree_sub_le _ _).trans_lt (max_lt (degree_blockPoly_lt x) (degree_blockPoly_lt y))

@[simp] theorem blockResidue_xor (x y : BitVec 128) : blockResidue (x ^^^ y) = blockResidue x + blockResidue y := by
  simp [blockResidue, blockPoly_xor]

@[simp] theorem blockResidue_zero : blockResidue 0#128 = 0 := by simp [blockResidue]

/-- R181: the block of the one. -/
theorem blockResidue_one : blockResidue (BitVec.twoPow 128 127) = 1 := by
  rw [blockResidue, blockPoly_twoPow (i := 0) (by decide), pow_zero, map_one]

/-! The loop. -/

/-- R181: the loop's `v` is multiplied by x. -/
theorem blockResidue_gf128Step_snd (x : BitVec 128) (zv : BitVec 128 × BitVec 128) (i : Nat) :
    blockResidue (gf128Step x zv i).2 = AdjoinRoot.mk gf128Modulus X * blockResidue zv.2 := by
  rw [blockResidue, blockResidue, ← map_mul, AdjoinRoot.mk_eq_mk, X_mul_blockPoly]
  cases hbit : zv.2.getLsbD 0 with
  | false =>
    have hkeep : (gf128Step x zv i).2 = zv.2 >>> 1 := if_neg (Bool.eq_false_iff.mp hbit)
    simp [hkeep]
  | true =>
    have hreduce : (gf128Step x zv i).2 = (zv.2 >>> 1) ^^^ (0xe1#128 <<< 120) := if_pos hbit
    rw [hreduce, blockPoly_xor, blockPoly_reduction, if_pos rfl, add_sub_add_left_eq_sub,
      CharTwo.sub_eq_add, add_comm, ← gf128Modulus_eq_add]

/-- R181: the loop's `z` takes up the coefficient of x^i of `x`. -/
theorem blockResidue_gf128Step_fst (x : BitVec 128) (zv : BitVec 128 × BitVec 128) (i : Nat) :
    blockResidue (gf128Step x zv i).1 =
      blockResidue zv.1 + if x.getLsbD (127 - i) then blockResidue zv.2 else 0 := by
  cases hbit : x.getLsbD (127 - i) <;> simp [gf128Step, hbit]

/-- R181: after `n` steps `z` is the product with the terms of `x` below x^n, and `v` the product with x^n. -/
theorem blockResidue_foldl_gf128Step (x y : BitVec 128) (n : Nat) :
    blockResidue ((List.range n).foldl (gf128Step x) (0, y)).1 =
        AdjoinRoot.mk gf128Modulus (lowTerms x n) * blockResidue y ∧
      blockResidue ((List.range n).foldl (gf128Step x) (0, y)).2 =
        AdjoinRoot.mk gf128Modulus X ^ n * blockResidue y := by
  induction n with
  | zero => simp [lowTerms]
  | succ n ih =>
    obtain ⟨hz, hv⟩ := ih
    rw [List.range_succ, List.foldl_append, List.foldl_cons, List.foldl_nil, blockResidue_gf128Step_fst,
      blockResidue_gf128Step_snd, hz, hv, lowTerms_succ]
    refine ⟨?_, by ring⟩
    split <;> simp [add_mul]

/-- R181: the loop multiplies residues. -/
theorem blockResidue_gf128Product (x y : BitVec 128) :
    blockResidue (gf128Product x y) = blockResidue x * blockResidue y := by
  rw [gf128Product, (blockResidue_foldl_gf128Step x y 128).1, ← blockPoly, ← blockResidue]

/-- R181: the loop multiplies polynomials modulo the modulus. -/
theorem blockPoly_gf128Product (x y : BitVec 128) :
    blockPoly (gf128Product x y) = (blockPoly x * blockPoly y) %ₘ gf128Modulus := by
  have hmk : AdjoinRoot.mk gf128Modulus (blockPoly (gf128Product x y)) =
      AdjoinRoot.mk gf128Modulus (blockPoly x * blockPoly y) := by
    rw [map_mul]
    exact blockResidue_gf128Product x y
  have hsmall : (blockPoly (gf128Product x y)).degree < gf128Modulus.degree := by
    rw [degree_gf128Modulus]
    exact degree_blockPoly_lt _
  rw [← modByMonic_eq_of_dvd_sub monic_gf128Modulus (AdjoinRoot.mk_eq_mk.mp hmk),
    (modByMonic_eq_self_iff monic_gf128Modulus).mpr hsmall]

/-! Blocks as words. -/

/-- R180: a block's word read back from its bytes. -/
@[simp] theorem blockWord_toBe (x : BitVec 128) : blockWord (toBe x.toNat 16) = x := ofNat_be_toBe (by decide) x

@[simp] theorem blockWord_gf128Mul (a b : Bytes) :
    blockWord (gf128Mul a b) = gf128Product (blockWord a) (blockWord b) := blockWord_toBe _

theorem blockWord_injective {a b : Bytes} (ha : a.length = 16) (hb : b.length = 16) (h : blockWord a = blockWord b) :
    a = b := by
  have hlt : ∀ c : Bytes, c.length = 16 → be c < 2 ^ 128 := fun c hc => by simpa [hc] using be_lt c
  refine be_injective (ha.trans hb.symm) ?_
  have hmod : be a % 2 ^ 128 = be b % 2 ^ 128 := congrArg BitVec.toNat h
  rwa [Nat.mod_eq_of_lt (hlt a ha), Nat.mod_eq_of_lt (hlt b hb)] at hmod

/-- R13: the number of a bytewise exclusive or. -/
theorem le_xorBytes {a b : Bytes} (h : a.length = b.length) : le (xorBytes a b) = le a ^^^ le b := by
  induction a generalizing b with
  | nil =>
    obtain rfl := List.length_eq_zero_iff.mp h.symm
    rfl
  | cons x a ih =>
    cases b with
    | nil => simp at h
    | cons y b =>
      have hcons : ∀ (z : Byte) (m : Nat), (z.toNat + 256 * m) % 2 ^ 8 = z.toNat ∧ (z.toNat + 256 * m) / 2 ^ 8 = m :=
        fun z m => by have := z.isLt; omega
      have hmod := Nat.xor_mod_two_pow (a := le (x :: a)) (b := le (y :: b)) (n := 8)
      have hdiv := Nat.xor_div_two_pow (a := le (x :: a)) (b := le (y :: b)) (n := 8)
      simp only [le_cons, hcons] at hmod hdiv
      have htail : le (xorBytes a b) = le a ^^^ le b := ih (by simpa using h)
      have : le (xorBytes (x :: a) (y :: b)) = (x ^^^ y).toNat + 256 * le (xorBytes a b) := rfl
      rw [this, htail, BitVec.toNat_xor, le_cons, le_cons]
      omega

theorem be_xorBytes {a b : Bytes} (h : a.length = b.length) : be (xorBytes a b) = be a ^^^ be b := by
  rw [be, xorBytes, List.reverse_zipWith h]
  exact le_xorBytes (by simpa using h)

theorem blockWord_xorBytes {a b : Bytes} (h : a.length = b.length) :
    blockWord (xorBytes a b) = blockWord a ^^^ blockWord b := by
  rw [blockWord, be_xorBytes h, BitVec.ofNat_xor, blockWord, blockWord]

theorem blockWord_one : blockWord (0x80#8 :: zeros 15) = BitVec.twoPow 128 127 := by decide

theorem blockWord_zeros : blockWord (zeros 16) = 0#128 := by decide

/-- R181: the residue of a block of bytes. -/
noncomputable def bytesResidue (a : Bytes) : AdjoinRoot gf128Modulus := blockResidue (blockWord a)

theorem bytesResidue_injective {a b : Bytes} (ha : a.length = 16) (hb : b.length = 16)
    (h : bytesResidue a = bytesResidue b) : a = b := blockWord_injective ha hb (blockResidue_injective h)

@[simp] theorem bytesResidue_gf128Mul (a b : Bytes) :
    bytesResidue (gf128Mul a b) = bytesResidue a * bytesResidue b := by
  rw [bytesResidue, blockWord_gf128Mul, blockResidue_gf128Product, bytesResidue, bytesResidue]

theorem bytesResidue_xorBytes {a b : Bytes} (h : a.length = b.length) :
    bytesResidue (xorBytes a b) = bytesResidue a + bytesResidue b := by
  rw [bytesResidue, blockWord_xorBytes h, blockResidue_xor, bytesResidue, bytesResidue]

@[simp] theorem bytesResidue_one : bytesResidue (0x80#8 :: zeros 15) = 1 := by
  rw [bytesResidue, blockWord_one, blockResidue_one]

@[simp] theorem bytesResidue_zeros : bytesResidue (zeros 16) = 0 := by
  rw [bytesResidue, blockWord_zeros, blockResidue_zero]

end Sys2Proof.Machine
end

section
/-! The statements about the AES and GCM commands (42_aes_gcm.md). -/

namespace Sys2Proof.Machine

open Sys2Proof

/-- Settles O33: the key's length is checked first, then the block's. -/
theorem aesCommands : Obligations.AesCommands := by
  intro s rd rs1 rs2 rs3
  refine ⟨fun hkey => ?_, fun hkey hblock => ?_, fun hkey i hi => ?_, fun hkey hblock i hi => ?_⟩
  · have hpass : firstFailure [checkLength 1 (s.slot rs1) 16] = none := by simp [hkey]
    exact ⟨completesOk_run_one s _ _ rd _ 0 hpass, completesOk_run_one s _ _ rd _ 0 hpass⟩
  · have hpass : firstFailure [checkLength 1 (s.slot rs1) 16, checkLength 2 (s.slot rs2) 16] = none := by
      simp [hkey, hblock]
    exact ⟨completesOk_run_one s _ _ rd _ 0 hpass, completesOk_run_one s _ _ rd _ 0 hpass,
      completesOk_run_one s _ _ rd _ 0 hpass⟩
  · obtain ⟨more, body, hrun⟩ := exec_checks_key s rd rs1 rs2 rs3 i hi
    rw [hrun]
    exact failsWith_run_badLength s [rd] _ body 1 (by simp [hkey])
  · obtain ⟨body, hrun⟩ := exec_checks_block s rd rs1 rs2 rs3 i hi
    rw [hrun]
    exact failsWith_run_badLength s [rd] _ body 2 (by simp [hkey, hblock])

/-- Settles O34: the bytes of the words in rising order. -/
theorem keySchedule : Obligations.KeySchedule := by
  intro key hkey w
  have hw : ∀ i, i < 44 → w i = ofKeyWord ((keyWords key).getD i noWord) := fun i hi => slice_aesKeyExpand key hi
  refine ⟨length_aesKeyExpand key, fun i hi => ?_, fun i h4 hi hmod => ?_, fun i h4 hi hmod => ?_⟩
  · rw [hw i (by omega), getD_keyWords_of_lt key hi, ofKeyWord_toKeyWord (by rw [length_slice]; omega)]
  · rw [hw i hi, hw (i - 4) (by omega), hw (i - 1) (by omega), getD_keyWords_of_le key h4 hi, if_neg hmod,
      xorBytes_ofKeyWord]
  · rw [hw i hi, hw (i - 4) (by omega), hw (i - 1) (by omega), getD_keyWords_of_le key h4 hi, if_pos hmod]
    exact (xorBytes_ofKeyWord _ (rotSubRcon i _)).symm

/-- Settles O35: residues turn `gf128Mul` into the product of a commutative ring, and determine a block. -/
theorem gf128IsPolynomialProduct : Obligations.Gf128IsPolynomialProduct := by
  unfold Obligations.Gf128IsPolynomialProduct
  intro poly a b ha hb
  have hproduct : poly (blockWord (gf128Mul a b)) = (poly (blockWord a) * poly (blockWord b)) %ₘ gf128Modulus := by
    have hpoly : poly = blockPoly := funext fun x => by rw [blockPoly, lowTerms]
    rw [hpoly, blockWord_gf128Mul, blockPoly_gf128Product]
  unfold gf128Modulus at hproduct
  refine ⟨length_gf128Mul a b, hproduct, ?comm, ?one, ?zero, fun c hc => ⟨?assoc, ?distrib⟩⟩
  case comm => exact bytesResidue_injective (by simp) (by simp) (by simp [mul_comm])
  case one => exact bytesResidue_injective (by simp) ha (by simp)
  case zero => exact bytesResidue_injective (by simp) (by simp) (by simp)
  case assoc => exact bytesResidue_injective (by simp) (by simp) (by simp [mul_assoc])
  case distrib =>
    refine bytesResidue_injective (by simp) (by simp) ?_
    rw [bytesResidue_xorBytes (by simp), bytesResidue_gf128Mul, bytesResidue_xorBytes (hb.trans hc.symm), mul_add,
      bytesResidue_gf128Mul, bytesResidue_gf128Mul]

/-- Settles O36: block `i / 16` of the keystream covers byte `i`, and the same keystream twice cancels. -/
theorem counterMode : Obligations.CounterMode :=
  ⟨fun key icb data => ⟨length_aesCtr key icb data, fun _ => getD_aesCtr key icb data, aesCtr_aesCtr key icb data⟩,
    fun _ h => ⟨length_inc32 h, slice_inc32_fixed h, be_slice_inc32 h⟩⟩

/-- Settles O37: the destinations are compared first, then the key's and the IV's lengths are checked. -/
theorem gcmEncrypts : Obligations.GcmEncrypts := by
  intro s rd rd2 rs1 rs2 rs3 rs4
  refine ⟨fun hne hkey hiv => ?_, fun halias => ?_, fun hne hkey => ?_, fun hne hkey hiv => ?_⟩
  · rw [exec_gcmEnc_of_checks s rd rd2 rs1 rs2 rs3 rs4 hne hkey hiv, gcmCtr_eq _ hiv]
    exact ⟨completesOk_two s rd rd2 _ _ 0, length_aesCtr _ _ _, length_gcmTag _ _ _ _⟩
  · rw [exec_gcmEnc, execGcmEnc, State.run_of_some _ _ _ _ .operandAlias (by simp [halias])]
    exact failsWith_raise_untouched s [rd, rd2] .operandAlias rfl
  · rw [exec_gcmEnc, execGcmEnc]
    exact failsWith_run_badLength s [rd, rd2] _ _ 1 (by simp [hne, hkey])
  · rw [exec_gcmEnc, execGcmEnc]
    exact failsWith_run_badLength s [rd, rd2] _ _ 2 (by simp [hne, hkey, hiv])

/-- Settles O38: the three lengths are checked in order, then the tags are compared. -/
theorem gcmDecrypts : Obligations.GcmDecrypts := by
  intro s rd rs1 rs2 rs3 rs4 rs5
  refine ⟨fun hkey hiv htag => ⟨fun heq => ?_, fun hne => ?_⟩, fun hkey => ?_, fun hkey hiv => ?_,
    fun hkey hiv htag => ?_⟩
  · rw [← gcmCtr_eq _ hiv]
    exact gcmDec_completes s rd rs1 rs2 rs3 rs4 rs5 hkey hiv htag heq
  · exact gcmDec_authFails s rd rs1 rs2 rs3 rs4 rs5 hkey hiv htag hne
  all_goals rw [exec_gcmDec, execGcmDec]
  · exact failsWith_run_badLength s [rd] _ _ 1 (by simp [hkey])
  · exact failsWith_run_badLength s [rd] _ _ 2 (by simp [hkey, hiv])
  · exact failsWith_run_badLength s [rd] _ _ 5 (by simp [hkey, hiv, htag])

/-- Settles O39: key, IV and additional data are what they were, so that the tag is recomputed as it was made, and
counter mode is its own inverse. -/
theorem gcmRoundTrip : Obligations.GcmRoundTrip := by
  intro s s' k iv a p c tag d hct hck hciv hca htk htiv hta hkey hiv hexec
  rw [exec_gcmEnc_of_checks s c tag k iv a p hct hkey hiv, Host.Outcome.next.injEq] at hexec
  have hslot : ∀ j, s'.slot j = written2 s c (gcmCtr (s.slot k) (s.slot iv) (s.slot p)) tag
      (gcmTag (s.slot k) (s.slot iv) (s.slot a) (gcmCtr (s.slot k) (s.slot iv) (s.slot p))) j := fun j => by
    simp [← hexec, written2, State.slot_setSlot]
  have hkept : ∀ j, c ≠ j → tag ≠ j → s'.slot j = s.slot j := fun j hc ht => by
    rw [hslot, written2, if_neg ht.symm, if_neg hc.symm]
  have hc : s'.slot c = gcmCtr (s.slot k) (s.slot iv) (s.slot p) := by rw [hslot, written2, if_neg hct, if_pos rfl]
  have htag : gcmTag (s'.slot k) (s'.slot iv) (s'.slot a) (s'.slot c) = s'.slot tag := by
    rw [hkept k hck htk, hkept iv hciv htiv, hkept a hca hta, hc, hslot, written2, if_pos rfl]
  have hkey' : (s'.slot k).length = 16 := by rw [hkept k hck htk, hkey]
  have hiv' : (s'.slot iv).length = 12 := by rw [hkept iv hciv htiv, hiv]
  constructor
  · have hplain : gcmCtr (s'.slot k) (s'.slot iv) (s'.slot c) = s.slot p := by
      rw [hkept k hck htk, hkept iv hciv htiv, hc, gcmCtr_gcmCtr]
    rw [← hplain]
    exact gcmDec_completes s' d k iv a c tag hkey' hiv' (by rw [← htag, length_gcmTag]) htag
  · intro x hx hne
    have hother : ∀ j, tag ≠ j → (s'.setSlot tag x).slot j = s'.slot j := fun j hj =>
      State.slot_setSlot_ne _ _ _ _ hj.symm
    refine gcmDec_authFails _ d k iv a c tag ?_ ?_ ?_ ?_
    · rw [hother k htk, hkey']
    · rw [hother iv htiv, hiv']
    · rw [State.slot_setSlot_same, hx]
    · rw [hother k htk, hother iv htiv, hother a hta, hother c hct.symm, htag, State.slot_setSlot_same]
      exact hne.symm

end Sys2Proof.Machine
end

section
/-! SUPPORT. The ChaCha20 keystream byte by byte, Poly1305's loop as a polynomial, and what the ChaCha20, POLY1305 and CCP
commands do once their checks pass (43_chacha_poly.md R213 to R226). -/

namespace Sys2Proof.Machine

open Sys2Proof

/-! The keystream (R214). -/

/-- Data combined with one block, and what follows it, byte by byte. -/
theorem getD_xorBytes_take_append {n i : Nat} {data block more : Bytes} (hblock : block.length = n)
    (hi : i < data.length) : (xorBytes (data.take n) block ++ more).getD i 0 =
      if i < n then data.getD i 0 ^^^ block.getD i 0 else more.getD (i - n) 0 := by
  have hlen : (xorBytes (data.take n) block).length = min n data.length := by
    rw [length_xorBytes, List.length_take, hblock]
    omega
  split
  case isTrue hin =>
    have htake : i < (data.take n).length := by rw [List.length_take]; omega
    rw [List.getD_append _ _ _ _ (by omega), getD_xorBytes htake (by omega), List.getD_eq_getElem?_getD,
      List.getElem?_take_of_lt hin, ← List.getD_eq_getElem?_getD]
  case isFalse hout => rw [List.getD_append_right _ _ _ _ (by omega), hlen, Nat.min_eq_left (by omega)]

section
variable {key nonce : Bytes} (hkey : key.length = 32) (hnonce : nonce.length = 12)
include hkey hnonce

/-- R214: byte `i` of the output. -/
theorem getD_chachaXor (counter : Word32) (data : Bytes) {i : Nat} (hi : i < data.length) :
    (chachaXor key nonce counter data).getD i 0 =
      data.getD i 0 ^^^ (chachaBlock key nonce (counter + BitVec.ofNat 32 (i / 64))).getD (i % 64) 0 := by
  unfold chachaXor
  induction data using chunks_induction (k := 64) (by decide) generalizing counter i with
  | nil => simp at hi
  | cons data hne ih =>
    rw [chunks_cons 64 (by decide) data hne, chachaChunks,
      getD_xorBytes_take_append (length_chachaBlock key nonce counter hkey hnonce) hi]
    split
    case isTrue hfirst =>
      rw [Nat.div_eq_of_lt hfirst, Nat.mod_eq_of_lt hfirst, BitVec.ofNat_eq_ofNat, BitVec.add_zero]
    case isFalse hlater =>
      obtain ⟨j, rfl⟩ := Nat.exists_eq_add_of_le' (Nat.le_of_not_lt hlater)
      have hcounter : counter + BitVec.ofNat 32 (j / 64 + 1) = counter + 1 + BitVec.ofNat 32 (j / 64) := by
        rw [BitVec.ofNat_add, BitVec.add_assoc, BitVec.add_comm (BitVec.ofNat 32 (j / 64))]
        rfl
      rw [Nat.add_sub_cancel, ih (counter + 1) (by rw [List.length_drop]; omega), Nat.add_div_right j (by decide),
        Nat.add_mod_right, hcounter, List.getD_eq_getElem?_getD, List.getElem?_drop, ← List.getD_eq_getElem?_getD,
        Nat.add_comm 64]

/-- R214: the same keystream twice cancels. -/
theorem chachaXor_chachaXor (counter : Word32) (data : Bytes) :
    chachaXor key nonce counter (chachaXor key nonce counter data) = data := by
  have hlen (b : Bytes) := length_chachaXor key nonce counter b hkey hnonce
  refine List.ext_getElem (by rw [hlen, hlen]) fun i _ hi => ?_
  rw [← List.getD_eq_getElem _ 0, getD_chachaXor hkey hnonce counter _ (by rwa [hlen]),
    getD_chachaXor hkey hnonce counter data hi, BitVec.xor_assoc, BitVec.xor_self, BitVec.xor_zero,
    List.getD_eq_getElem _ _ hi]

end

/-! Poly1305 (R218 to R220). -/

/-- R219: the chunks of a message by their positions. -/
theorem chunks_eq_map_slice {k : Nat} (hk : 0 < k) (b : Bytes) :
    chunks k b = (List.range ((b.length + k - 1) / k)).map fun j => slice b (k * j) (k * j + k) := by
  refine List.ext_getElem (by rw [length_chunks k hk, List.length_map, List.length_range]) fun j hj _ => ?_
  have hchunk := getElem?_chunks k hk b j
  rw [List.getElem?_eq_getElem hj] at hchunk
  split at hchunk
  case isTrue => simpa [Nat.mul_comm k] using hchunk
  case isFalse => cases hchunk

/-- R220: the number of a chunk with the 1 bit appended. -/
def chunkNumber (c : Bytes) : Nat := le c + 2 ^ (8 * c.length)

/-- R219: the polynomial of `n` chunks in `r`, without a constant term. -/
def polySum (r n : Nat) (chunk : Nat → Bytes) : Nat :=
  ((List.range n).map fun j => chunkNumber (chunk j) * r ^ (n - j)).sum

/-- Horner's rule. -/
theorem polySum_succ (r n : Nat) (chunk : Nat → Bytes) :
    polySum r (n + 1) chunk = (polySum r n chunk + chunkNumber (chunk n)) * r := by
  have hpow : ∀ j ∈ List.range n, chunkNumber (chunk j) * r ^ (n + 1 - j) = chunkNumber (chunk j) * r ^ (n - j) * r :=
    fun j hj => by rw [Nat.succ_sub (List.mem_range.mp hj).le, pow_succ, mul_assoc]
  rw [polySum, List.range_succ, List.map_append, List.sum_append, List.map_congr_left hpow, List.sum_map_mul_right,
    add_mul, polySum]
  simp

/-- R219: the loop evaluates the polynomial, reducing at every chunk. -/
theorem foldl_polyStep (r n : Nat) (chunk : Nat → Bytes) :
    ((List.range n).map chunk).foldl (polyStep r) 0 = polySum r n chunk % p1305 := by
  induction n with
  | zero => rfl
  | succ n ih =>
    calc ((List.range (n + 1)).map chunk).foldl (polyStep r) 0
      _ = polyStep r (polySum r n chunk % p1305) (chunk n) := by simp [List.range_succ, ih]
      _ = (polySum r n chunk % p1305 + chunkNumber (chunk n)) * r % p1305 := rfl
      _ = polySum r (n + 1) chunk % p1305 := by
        rw [polySum_succ, Nat.mul_mod, Nat.mod_add_mod, ← Nat.mul_mod]

/-- R219: the number of the tag. -/
theorem le_poly1305 (otk msg : Bytes) :
    le (poly1305 otk msg) =
      (polySum (polyR otk) ((msg.length + 15) / 16) (fun j => slice msg (16 * j) (16 * j + 16)) % p1305 + polyS otk) %
        2 ^ 128 := by
  have hbytes : 2 ^ 128 = 256 ^ 16 := by norm_num
  rw [poly1305, le_toLe_of_lt _ 16 (hbytes ▸ Nat.mod_lt _ (by decide)), chunks_eq_map_slice (by decide), foldl_polyStep]
  rfl

/-! Authenticated encryption (R222, 47_system.md R354). -/

/-- R222: the plaintext is released for the right tag alone. -/
theorem ccpDecrypt_eq (key iv aad c tag : Bytes) :
    ccpDecrypt key iv aad c tag = if ccpTag key iv aad c = tag then some (chachaXor key iv 1 c) else none := by
  simp only [ccpDecrypt, ctEqual_iff]

/-! The commands (R213, R215, R221, R225, R226). -/

section
variable (s : State) (rd rd2 rs1 rs2 rs3 rs4 rs5 : Slot) (imm : Word32)

theorem exec_chacha20Block : exec (.chacha20Block rd rs1 rs2 imm) s = execChacha20Block rd rs1 rs2 imm s := rfl

theorem exec_chacha20Xor : exec (.chacha20Xor rd rs1 rs2 rs3 imm) s = execChacha20Xor rd rs1 rs2 rs3 imm s := rfl

theorem exec_poly1305 : exec (.poly1305 rd rs1 rs2) s = execPoly1305 rd rs1 rs2 s := rfl

theorem exec_ccpEnc : exec (.ccpEnc rd rd2 rs1 rs2 rs3 rs4) s = execCcpEnc rd rd2 rs1 rs2 rs3 rs4 s := rfl

theorem exec_ccpDec : exec (.ccpDec rd rs1 rs2 rs3 rs4 rs5) s = execCcpDec rd rs1 rs2 rs3 rs4 rs5 s := rfl

/-- R225: an encryption that passes its checks. -/
theorem exec_ccpEnc_of_checks (hne : rd ≠ rd2) (hkey : (s.slot rs1).length = 32) (hiv : (s.slot rs2).length = 12) :
    exec (.ccpEnc rd rd2 rs1 rs2 rs3 rs4) s =
      .next (s.succeed
        [(rd, chachaXor (s.slot rs1) (s.slot rs2) 1 (s.slot rs4)),
          (rd2, ccpTag (s.slot rs1) (s.slot rs2) (s.slot rs3)
            (chachaXor (s.slot rs1) (s.slot rs2) 1 (s.slot rs4)))] 0) := by
  rw [exec_ccpEnc, execCcpEnc, State.run_of_none _ _ _ _ (by simp [hne, hkey, hiv])]
  rfl

section
variable (hkey : (s.slot rs1).length = 32) (hiv : (s.slot rs2).length = 12) (htag : (s.slot rs5).length = 16)
include hkey hiv htag

/-- R226: a decryption that passes its checks and whose tag is right. -/
theorem ccpDec_completes (heq : ccpTag (s.slot rs1) (s.slot rs2) (s.slot rs3) (s.slot rs4) = s.slot rs5) :
    CompletesOk (exec (.ccpDec rd rs1 rs2 rs3 rs4 rs5) s) s
      (written s rd (chachaXor (s.slot rs1) (s.slot rs2) 1 (s.slot rs4))) 0 := by
  rw [exec_ccpDec, execCcpDec, State.run_of_none _ _ _ _ (by simp [hkey, hiv, htag]), ccpDecrypt_eq, if_pos heq]
  exact completesOk_one s rd _ 0

/-- R226: a decryption that passes its checks and whose tag is wrong. -/
theorem ccpDec_authFails (hne : ccpTag (s.slot rs1) (s.slot rs2) (s.slot rs3) (s.slot rs4) ≠ s.slot rs5) :
    FailsWith (exec (.ccpDec rd rs1 rs2 rs3 rs4 rs5) s) s [rd] .authFail := by
  rw [exec_ccpDec, execCcpDec, State.run_of_none _ _ _ _ (by simp [hkey, hiv, htag]), ccpDecrypt_eq, if_neg hne]
  exact failsWith_raise s [rd] .authFail rfl

end

end

/-- R377: the slots after a command that wrote two of them. -/
theorem slot_succeed_two (s : State) (rd rd2 : Slot) (out out2 : Bytes) (v : Word32) :
    (s.succeed [(rd, out), (rd2, out2)] v).slot = written2 s rd out rd2 out2 := by
  funext j
  simp [written2, State.slot_setSlot]

end Sys2Proof.Machine
end

section
/-! The statements about the ChaCha20 and Poly1305 commands (43_chacha_poly.md). -/

namespace Sys2Proof.Machine

open Sys2Proof

/-- Settles O40: the key's length is checked first, then the nonce's. -/
theorem chaChaCommands : Obligations.ChaChaCommands := by
  intro s rd rs1 rs2 rs3 imm
  refine ⟨fun hkey hnonce => ?_, fun hkey => ?_, fun hkey => ?_, fun hkey hnonce => ?_⟩
  · have hpass : firstFailure [checkLength 1 (s.slot rs1) 32, checkLength 2 (s.slot rs2) 12] = none := by
      simp [hkey, hnonce]
    exact ⟨completesOk_run_one s _ _ rd _ 0 hpass, completesOk_run_one s _ _ rd _ 0 hpass⟩
  · exact completesOk_run_one s _ [checkLength 1 (s.slot rs1) 32] rd _ 0 (by simp [hkey])
  · have hfirst (more : List (Option Failure)) (body : Unit → State) := failsWith_run_badLength s [rd]
      (checkLength 1 (s.slot rs1) 32 :: more) body 1 (by simp [hkey])
    simp only [List.forall_mem_cons, exec_chacha20Block, exec_chacha20Xor, exec_poly1305]
    exact ⟨hfirst _ _, hfirst _ _, hfirst _ _, List.forall_mem_nil _⟩
  · have hsecond (body : Unit → State) := failsWith_run_badLength s [rd]
      [checkLength 1 (s.slot rs1) 32, checkLength 2 (s.slot rs2) 12] body 2 (by simp [hkey, hnonce])
    simp only [List.forall_mem_cons, exec_chacha20Block, exec_chacha20Xor]
    exact ⟨hsecond _, hsecond _, List.forall_mem_nil _⟩

/-- Settles O41: block `i / 64` of the keystream covers byte `i`, and the same keystream twice cancels. -/
theorem chaChaKeystream : Obligations.ChaChaKeystream := fun key nonce data counter hkey hnonce =>
  ⟨length_chachaXor key nonce counter data hkey hnonce, fun _ => getD_chachaXor hkey hnonce counter data,
    chachaXor_chachaXor hkey hnonce counter data⟩

/-- Settles O42: the loop is Horner's rule. -/
theorem poly1305IsPolynomial : Obligations.Poly1305IsPolynomial := le_poly1305

/-- Settles O43: the destinations are compared first, then the lengths are checked in order, then the tags are
compared. -/
theorem ccpCommands : Obligations.CcpCommands := by
  intro s rd rd2 rs1 rs2 rs3 rs4 rs5 tag
  refine ⟨fun hkey hiv => ⟨fun hne => ?enc, fun htag heq => ?dec, fun htag hne => ?auth, fun htag => ?tagLength⟩,
    fun hsame => ?sameSlot, fun hkey => ⟨fun hne => ?encKey, ?decKey⟩,
    fun hkey hiv => ⟨fun hne => ?encNonce, ?decNonce⟩⟩
  case enc =>
    rw [exec_ccpEnc_of_checks s rd rd2 rs1 rs2 rs3 rs4 hne hkey hiv]
    exact completesOk_two s rd rd2 _ _ 0
  case dec => exact ccpDec_completes s rd rs1 rs2 rs3 rs4 rs5 hkey hiv htag heq
  case auth => exact ccpDec_authFails s rd rs1 rs2 rs3 rs4 rs5 hkey hiv htag hne
  case sameSlot =>
    rw [exec_ccpEnc, execCcpEnc, State.run_of_some _ _ _ _ .operandAlias (by simp [hsame])]
    exact failsWith_raise_untouched s [rd, rd2] .operandAlias rfl
  all_goals simp only [exec_ccpEnc, execCcpEnc, exec_ccpDec, execCcpDec]
  case tagLength => exact failsWith_run_badLength s [rd] _ _ 5 (by simp [hkey, hiv, htag])
  case encKey => exact failsWith_run_badLength s [rd, rd2] _ _ 1 (by simp [hne, hkey])
  case decKey => exact failsWith_run_badLength s [rd] _ _ 1 (by simp [hkey])
  case encNonce => exact failsWith_run_badLength s [rd, rd2] _ _ 2 (by simp [hne, hkey, hiv])
  case decNonce => exact failsWith_run_badLength s [rd] _ _ 2 (by simp [hkey, hiv])

/-- Settles O44: key, nonce and additional data are what they were, so that the tag is recomputed as it was made, and
the keystream cancels itself. -/
theorem ccpRoundTrip : Obligations.CcpRoundTrip := by
  intro s s' k iv a p c tag d hct hck hciv hca htk htiv hta hkey hiv hexec
  rw [exec_ccpEnc_of_checks s c tag k iv a p hct hkey hiv, Host.Outcome.next.injEq] at hexec
  have hslots := slot_succeed_two s c tag (chachaXor (s.slot k) (s.slot iv) 1 (s.slot p))
    (ccpTag (s.slot k) (s.slot iv) (s.slot a) (chachaXor (s.slot k) (s.slot iv) 1 (s.slot p))) 0
  rw [hexec] at hslots
  have hkept : ∀ j, c ≠ j → tag ≠ j → s'.slot j = s.slot j := fun j hc ht => by
    rw [hslots, written2, if_neg ht.symm, if_neg hc.symm]
  have hk := hkept k hck htk
  have hn := hkept iv hciv htiv
  have hc : s'.slot c = chachaXor (s'.slot k) (s'.slot iv) 1 (s.slot p) := by
    rw [hk, hn, hslots, written2, if_neg hct, if_pos rfl]
  have htag : ccpTag (s'.slot k) (s'.slot iv) (s'.slot a) (s'.slot c) = s'.slot tag := by
    rw [hc, hk, hn, hkept a hca hta, hslots, written2, if_pos rfl]
  rw [← hk] at hkey
  rw [← hn] at hiv
  constructor
  · have hplain : chachaXor (s'.slot k) (s'.slot iv) 1 (s'.slot c) = s.slot p := by
      rw [hc, chachaXor_chachaXor hkey hiv]
    rw [← hplain]
    exact ccpDec_completes s' d k iv a c tag hkey hiv (by rw [← htag, length_ccpTag]) htag
  · intro x hx hne
    have hother : ∀ j, tag ≠ j → (s'.setSlot tag x).slot j = s'.slot j := fun j hj =>
      State.slot_setSlot_ne _ _ _ _ hj.symm
    apply ccpDec_authFails
    · rwa [hother k htk]
    · rwa [hother iv htiv]
    · rwa [State.slot_setSlot_same]
    · rw [hother k htk, hother iv htiv, hother a hta, hother c hct.symm, htag, State.slot_setSlot_same]
      exact hne.symm

end Sys2Proof.Machine
end

section
/-! SUPPORT. The X25519 unit: the field as numbers below `p` (44_x25519.md R240, R241), the power by squaring (R243), the
clamped scalar's range (R245), the ladder's registers (R246), and what the commands check (R242 to R249). -/

namespace Sys2Proof.Machine

open Sys2Proof

/-! The field (R240, R241). -/

theorem one_lt_p25519 : 1 < p25519 := by decide

theorem zero_lt_p25519 : 0 < p25519 := by decide

theorem fieldMul_lt (a b : Nat) : fieldMul a b < p25519 := Nat.mod_lt _ zero_lt_p25519

theorem pointCoordinate_lt (b : Bytes) : pointCoordinate b < p25519 := Nat.mod_lt _ zero_lt_p25519

/-- R241: an element is the one its bytes encode. -/
theorem fieldDecode_fieldEncode {a : Nat} (h : a < p25519) : fieldDecode (fieldEncode a) = a := by
  have hp : p25519 < 256 ^ 32 := by decide
  rw [fieldDecode, fieldEncode, le_toLe_of_lt _ _ (h.trans hp), Nat.mod_eq_of_lt h]

/-- R248: a point whose bit 255 is masked decodes to its coordinate. -/
theorem fieldDecode_toLe_masked (b : Bytes) : fieldDecode (toLe (le b % 2 ^ 255) 32) = pointCoordinate b := by
  have hlt : le b % 2 ^ 255 < 256 ^ 32 := (Nat.mod_lt _ (by decide)).trans (by decide)
  rw [fieldDecode, le_toLe_of_lt _ _ hlt, pointCoordinate]

/-! The power (R243). -/

/-- One squaring of `fieldPow`, with the multiplication that bit `t` of the exponent asks for. -/
def powStep (a e acc t : Nat) : Nat :=
  if e.testBit t then fieldMul (fieldMul acc acc) a else fieldMul acc acc

theorem fieldPow_eq_foldl (a e : Nat) : fieldPow a e = (List.range 255).reverse.foldl (powStep a e) 1 := rfl

theorem powStep_lt (a e acc t : Nat) : powStep a e acc t < p25519 := by
  unfold powStep
  split <;> exact fieldMul_lt _ _

theorem powStep_modEq (a e acc t : Nat) : powStep a e acc t ≡ acc ^ 2 * a ^ (e.testBit t).toNat [MOD p25519] := by
  have hsquare : fieldMul acc acc ≡ acc ^ 2 [MOD p25519] := by
    rw [sq]
    exact Nat.mod_modEq _ _
  cases hbit : e.testBit t with
  | false => simpa [powStep, hbit] using hsquare
  | true =>
    simp only [powStep, hbit, if_true, Bool.toNat_true, pow_one]
    exact (Nat.mod_modEq _ _).trans (hsquare.mul_right a)

/-- The bits of the exponent below `n`, the highest first. -/
theorem foldl_powStep_modEq (a e n acc : Nat) :
    (List.range n).reverse.foldl (powStep a e) acc ≡ acc ^ 2 ^ n * a ^ (e % 2 ^ n) [MOD p25519] := by
  induction n generalizing acc with
  | zero => simp [Nat.mod_one, Nat.ModEq.refl]
  | succ n ih =>
    rw [List.range_succ, List.reverse_append, List.reverse_singleton, List.singleton_append, List.foldl_cons]
    have hexp : (acc ^ 2 * a ^ (e.testBit n).toNat) ^ 2 ^ n * a ^ (e % 2 ^ n) =
        acc ^ 2 ^ (n + 1) * a ^ (e % 2 ^ (n + 1)) := by
      rw [Nat.mod_pow_succ, ← Nat.toNat_testBit, mul_pow, ← pow_mul, ← pow_mul, pow_succ' 2 n]
      ring
    exact hexp ▸ (ih _).trans (((powStep_modEq a e acc n).pow _).mul_right _)

/-- All bits of the exponent. -/
theorem foldl_powStep_one_modEq (a : Nat) {e n : Nat} (h : e < 2 ^ n) :
    (List.range n).reverse.foldl (powStep a e) 1 ≡ a ^ e [MOD p25519] := by
  simpa [Nat.mod_eq_of_lt h] using foldl_powStep_modEq a e n 1

theorem fieldPow_lt (a e : Nat) : fieldPow a e < p25519 :=
  List.foldlRecOn (motive := (· < p25519)) _ (powStep a e) one_lt_p25519 fun _ _ _ _ => powStep_lt _ _ _ _

/-- R243: square-and-multiply computes the power. -/
theorem fieldPow_eq {a e : Nat} (h : e < 2 ^ 255) : fieldPow a e = a ^ e % p25519 :=
  (Nat.mod_eq_of_lt (fieldPow_lt a e)).symm.trans (foldl_powStep_one_modEq a h)

theorem gfInvert_eq (a : Nat) : gfInvert a = a ^ (p25519 - 2) % p25519 := fieldPow_eq (by decide)

theorem gfInvert_lt (a : Nat) : gfInvert a < p25519 := fieldPow_lt _ _

/-! The clamped scalar (R245). -/

theorem le_append (a b : Bytes) : le (a ++ b) = le a + 256 ^ a.length * le b := by
  induction a with
  | nil => simp
  | cons x a ih =>
    rw [List.cons_append, le_cons, ih, le_cons, List.length_cons]
    ring

theorem exists_ends_of_length {b : Bytes} (h : b.length = 32) :
    ∃ (x y : Byte) (mid : Bytes), mid.length = 30 ∧ b = x :: (mid ++ [y]) := by
  obtain ⟨x, r, rfl⟩ := List.exists_cons_of_length_eq_add_one h
  have hr : r ≠ [] := by rintro rfl; simp at h
  exact ⟨x, r.getLast hr, r.dropLast, by simpa using h, by rw [List.dropLast_append_getLast]⟩

/-- R245: the first and the last byte change. -/
theorem clampScalar_ends (x y : Byte) {mid : Bytes} (h : mid.length = 30) :
    clampScalar (x :: (mid ++ [y])) = (x &&& 0xf8#8) :: (mid ++ [y &&& 0x7f#8 ||| 0x40#8]) := by
  simp [clampScalar, h]

theorem length_clampScalar (sc : Bytes) : (clampScalar sc).length = sc.length := by simp [clampScalar]

theorem clampFirst_mod : ∀ x : Byte, (x &&& 0xf8#8).toNat % 8 = 0 := by decide

theorem clampLast_bounds : ∀ y : Byte, 64 ≤ (y &&& 0x7f#8 ||| 0x40#8).toNat ∧ (y &&& 0x7f#8 ||| 0x40#8).toNat < 128 := by
  decide

/-- R245: bit 254 is the highest one set, and the number is a multiple of the cofactor 8. -/
theorem clampScalar_range {sc : Bytes} (h : sc.length = 32) :
    2 ^ 254 ≤ le (clampScalar sc) ∧ le (clampScalar sc) < 2 ^ 255 ∧ le (clampScalar sc) % 8 = 0 := by
  obtain ⟨x, y, mid, hmid, rfl⟩ := exists_ends_of_length h
  have hfirst := clampFirst_mod x
  have hbyte := (x &&& 0xf8#8).isLt
  have hlast := clampLast_bounds y
  have hlow := le_lt mid
  rw [clampScalar_ends x y hmid, le_cons, le_append, le_cons, le_nil, hmid]
  rw [hmid] at hlow
  omega

/-! The ladder (R246). -/

/-- The ladder's four registers hold field elements. -/
def LadderState.Reduced (l : LadderState) : Prop :=
  l.x2 < p25519 ∧ l.z2 < p25519 ∧ l.x3 < p25519 ∧ l.z3 < p25519

theorem LadderState.Reduced.condSwap {l : LadderState} (h : l.Reduced) (b : Bool) : (condSwap b l).Reduced := by
  obtain ⟨hx2, hz2, hx3, hz3⟩ := h
  cases b with
  | false => exact ⟨hx2, hz2, hx3, hz3⟩
  | true => exact ⟨hx3, hz3, hx2, hz2⟩

theorem ladderStep_reduced (k x1 : Nat) (l : LadderState) (t : Nat) : (ladderStep k x1 l t).Reduced :=
  ⟨fieldMul_lt _ _, fieldMul_lt _ _, fieldMul_lt _ _, fieldMul_lt _ _⟩

/-- R246: on a field element the ladder gives field elements. -/
theorem ladder_lt (k : Nat) {u : Nat} (h : u < p25519) : (ladder k u).1 < p25519 ∧ (ladder k u).2 < p25519 := by
  have hstart : LadderState.Reduced { x2 := 1, z2 := 0, x3 := u, z3 := 1, swap := false } :=
    ⟨one_lt_p25519, zero_lt_p25519, h, one_lt_p25519⟩
  have hend := List.foldlRecOn (motive := LadderState.Reduced) (List.range 255).reverse (ladderStep k u) hstart
    fun l _ t _ => ladderStep_reduced k u l t
  obtain ⟨hx2, hz2, -, -⟩ := hend.condSwap _
  exact ⟨hx2, hz2⟩

/-! The commands (R242, R244, R247 to R249). -/

theorem basePoint_eq : basePoint = toLe 9 32 := by decide

section
variable (s : State) (rd rd2 rs1 rs2 : Slot)

theorem exec_x25519 : exec (.x25519 rd rs1 rs2) s = execX25519 rd rs1 rs2 s := rfl

theorem exec_x25519Base : exec (.x25519Base rd rs1) s = execX25519Base rd rs1 s := rfl

theorem exec_gfMul : exec (.gfMul rd rs1 rs2) s = execGfMul rd rs1 rs2 s := rfl

theorem exec_gfInv : exec (.gfInv rd rs1) s = execGfInv rd rs1 s := rfl

theorem exec_ladder : exec (.ladder rd rd2 rs1 rs2) s = execLadder rd rd2 rs1 rs2 s := rfl

/-- R244: an inversion that passes its check. -/
theorem exec_gfInv_of_checks (h : (s.slot rs1).length = 32) :
    exec (.gfInv rd rs1) s = .next (s.succeed [(rd, fieldEncode (gfInvert (fieldDecode (s.slot rs1))))] 0) := by
  rw [exec_gfInv, execGfInv, State.run_of_none _ _ _ _ (by simp [h])]

/-- R242: a multiplication that passes its checks. -/
theorem exec_gfMul_of_checks (h1 : (s.slot rs1).length = 32) (h2 : (s.slot rs2).length = 32) :
    exec (.gfMul rd rs1 rs2) s =
      .next (s.succeed [(rd, fieldEncode (fieldMul (fieldDecode (s.slot rs1)) (fieldDecode (s.slot rs2))))] 0) := by
  rw [exec_gfMul, execGfMul, State.run_of_none _ _ _ _ (by simp [h1, h2])]

/-- R247: a ladder that passes its checks. -/
theorem exec_ladder_of_checks (hne : rd ≠ rd2) (h1 : (s.slot rs1).length = 32) (h2 : (s.slot rs2).length = 32) :
    exec (.ladder rd rd2 rs1 rs2) s =
      .next (s.succeed
        [(rd, fieldEncode (ladder (le (s.slot rs1) % 2 ^ 255) (fieldDecode (s.slot rs2))).1),
          (rd2, fieldEncode (ladder (le (s.slot rs1) % 2 ^ 255) (fieldDecode (s.slot rs2))).2)] 0) := by
  rw [exec_ladder, execLadder, State.run_of_none _ _ _ _ (by simp [hne, h1, h2])]

end

/-- R377: the slots after a command that wrote one of them. -/
theorem slot_succeed_one (s : State) (rd : Slot) (out : Bytes) (v : Word32) :
    (s.succeed [(rd, out)] v).slot = written s rd out := by
  funext j
  simp [written, State.slot_setSlot]

/-- R242, R244, R247: the quotient of what a ladder left in two slots, by an inversion in place and a multiplication. -/
theorem ladder_gfInv_gfMul (s : State) (k u : Slot) {x z : Slot} (out : Slot) (hne : x ≠ z)
    (hk : (s.slot k).length = 32) (hu : (s.slot u).length = 32) {xz : Nat × Nat}
    (hxz : ladder (le (s.slot k) % 2 ^ 255) (fieldDecode (s.slot u)) = xz) :
    ∃ s1 s2 s3, exec (.ladder x z k u) s = .next s1 ∧ exec (.gfInv z z) s1 = .next s2 ∧
      exec (.gfMul out x z) s2 = .next s3 ∧ s3.result = .ok ∧
      s3.slot out = fieldEncode (fieldMul xz.1 (gfInvert xz.2)) := by
  obtain ⟨hx, hz⟩ : xz.1 < p25519 ∧ xz.2 < p25519 := hxz ▸ ladder_lt _ (Nat.mod_lt _ zero_lt_p25519)
  have hladder := exec_ladder_of_checks s x z k u hne hk hu
  rw [hxz] at hladder
  generalize hs1 : s.succeed [(x, fieldEncode xz.1), (z, fieldEncode xz.2)] 0 = s1 at hladder
  have hx1 : s1.slot x = fieldEncode xz.1 := by rw [← hs1, slot_succeed_two, written2, if_neg hne, if_pos rfl]
  have hz1 : s1.slot z = fieldEncode xz.2 := by rw [← hs1, slot_succeed_two, written2, if_pos rfl]
  have hinv := exec_gfInv_of_checks s1 z z (by rw [hz1, length_fieldEncode])
  rw [hz1, fieldDecode_fieldEncode hz] at hinv
  generalize hs2 : s1.succeed [(z, fieldEncode (gfInvert xz.2))] 0 = s2 at hinv
  have hx2 : s2.slot x = fieldEncode xz.1 := by rw [← hs2, slot_succeed_one, written, if_neg hne, hx1]
  have hz2 : s2.slot z = fieldEncode (gfInvert xz.2) := by rw [← hs2, slot_succeed_one, written, if_pos rfl]
  have hmul := exec_gfMul_of_checks s2 out x z (by rw [hx2, length_fieldEncode]) (by rw [hz2, length_fieldEncode])
  rw [hx2, hz2, fieldDecode_fieldEncode hx, fieldDecode_fieldEncode (gfInvert_lt _)] at hmul
  exact ⟨s1, s2, _, hladder, hinv, hmul, rfl, by rw [slot_succeed_one, written, if_pos rfl]⟩

end Sys2Proof.Machine
end

section
/-! The statements about the X25519 commands (44_x25519.md). -/

namespace Sys2Proof.Machine

open Sys2Proof

/-- Settles O45: the destinations are compared first, then the lengths are checked in order; the inverse is the power by
squaring. -/
theorem x25519Commands : Obligations.X25519Commands := by
  intro s rd rd2 rs1 rs2 p a b xz
  refine ⟨fun h1 => ⟨?inv, ?base, fun h2 => ⟨?mul, ?x25519, fun hne => ?ladder⟩⟩, fun hsame => ?sameSlot,
    fun h1 => ⟨?first, fun hne => ?ladderFirst⟩, fun h1 h2 => ⟨?second, fun hne => ?ladderSecond⟩⟩
  case inv =>
    rw [exec_gfInv_of_checks s rd rs1 h1, gfInvert_eq]
    exact completesOk_one s rd _ 0
  case base =>
    rw [← basePoint_eq]
    exact completesOk_run_one s _ [checkLength 1 (s.slot rs1) 32] rd _ 0 (by simp [h1])
  case mul =>
    rw [exec_gfMul_of_checks s rd rs1 rs2 h1 h2]
    exact completesOk_one s rd _ 0
  case x25519 =>
    exact completesOk_run_one s _ [checkLength 1 (s.slot rs1) 32, checkLength 2 (s.slot rs2) 32] rd _ 0 (by simp [h1, h2])
  case ladder =>
    rw [exec_ladder_of_checks s rd rd2 rs1 rs2 hne h1 h2]
    exact completesOk_two s rd rd2 _ _ 0
  case sameSlot =>
    rw [exec_ladder, execLadder, State.run_of_some _ _ _ _ .operandAlias (by simp [hsame])]
    exact failsWith_raise_untouched s [rd, rd2] .operandAlias rfl
  case first =>
    have hfirst (more : List (Option Failure)) (body : Unit → State) := failsWith_run_badLength s [rd]
      (checkLength 1 (s.slot rs1) 32 :: more) body 1 (by simp [h1])
    simp only [List.forall_mem_cons, exec_gfInv, exec_x25519Base, exec_gfMul, exec_x25519]
    exact ⟨hfirst _ _, hfirst _ _, hfirst _ _, hfirst _ _, List.forall_mem_nil _⟩
  case ladderFirst =>
    rw [exec_ladder, execLadder]
    exact failsWith_run_badLength s [rd, rd2] _ _ 1 (by simp [hne, h1])
  case second =>
    have hsecond (body : Unit → State) := failsWith_run_badLength s [rd]
      [checkLength 1 (s.slot rs1) 32, checkLength 2 (s.slot rs2) 32] body 2 (by simp [h1, h2])
    simp only [List.forall_mem_cons, exec_gfMul, exec_x25519]
    exact ⟨hsecond _, hsecond _, List.forall_mem_nil _⟩
  case ladderSecond =>
    rw [exec_ladder, execLadder]
    exact failsWith_run_badLength s [rd, rd2] _ _ 2 (by simp [hne, h1, h2])

/-- Settles O46: a clamped scalar is not changed by LADDER's own masking, nor a field element by encoding it between the
commands. -/
theorem x25519Composition : Obligations.X25519Composition := by
  intro s sc pt k u x z out hsc _ hne hk hu
  obtain ⟨hlow, hhigh, hmod⟩ := clampScalar_range hsc
  have hladder : ladder (le (s.slot k) % 2 ^ 255) (fieldDecode (s.slot u)) =
      ladder (le (clampScalar sc)) (pointCoordinate pt) := by
    rw [hk, Nat.mod_eq_of_lt hhigh, hu, fieldDecode_toLe_masked]
  exact ⟨hlow, hhigh, hmod, ladder_gfInv_gfMul s k u out hne (by rw [hk, length_clampScalar, hsc])
    (by rw [hu, length_toLe]) hladder⟩

end Sys2Proof.Machine
end

section
/-! SUPPORT. What stands in a part of a buffer: the header the DER reader finds there (45_der.md R271 to R273), the
elements it delivers (R274 to R276), and both for the first bytes of the buffer alone (R277). -/

namespace Sys2Proof.Machine

open Sys2Proof

/-! Parts of a buffer. -/

theorem slice_append_slice (b : Bytes) {i j k : Nat} (hij : i ≤ j) (hjk : j ≤ k) :
    slice b i j ++ slice b j k = slice b i k := by
  have hsum : k - i = (j - i) + (k - j) := by omega
  have hj : i + (j - i) = j := by omega
  rw [slice, slice, slice, hsum, List.take_add, List.drop_drop, hj]

theorem length_slice_of_le {b : Bytes} {i j : Nat} (h : j ≤ b.length) : (slice b i j).length = j - i := by
  rw [length_slice]
  omega

theorem slice_zero_length (b : Bytes) : slice b 0 b.length = b := by simp [slice]

theorem slice_self (b : Bytes) (i : Nat) : slice b i i = [] := by simp [slice]

theorem slice_take {b : Bytes} {i j n : Nat} (h : j ≤ n) : slice (b.take n) i j = slice b i j := by
  rw [slice, slice, List.drop_take, List.take_take, min_eq_left (by omega)]

/-! The header (R271 to R273). -/

/-- The offset after the last content byte of a node. -/
def nodeEnd (n : DerNode) : Nat := n.voff + n.value.length

theorem value_eq_slice {buf : Bytes} {n : DerNode} (h : nodeStandsIn buf n) :
    n.value = slice buf n.voff (nodeEnd n) := h.2.1

theorem lt_voff_of_identifier {n : DerNode} {identifier : Bytes} {off k : Nat}
    (hv : n.voff = off + identifier.length + k) (hi : identifierOctets n identifier) : off < n.voff := by
  obtain ⟨_, _, rfl, -⟩ := hi
  simp only [List.length_cons] at hv
  omega

/-- R271 to R274: a header is read from `off` to `stop` iff its element stands at `off` and ends no later than `stop`. -/
theorem parseHeader_slice_iff {buf : Bytes} {off stop : Nat} (hle : off ≤ stop) (hstop : stop ≤ buf.length)
    (n : DerNode) (rest : Bytes) :
    parseHeader off (slice buf off stop) = some (n, rest) ↔
      (n.hdr = off ∧ off < n.voff ∧ nodeEnd n ≤ stop ∧ nodeStandsIn buf n) ∧ rest = slice buf (nodeEnd n) stop := by
  have hvalue : n.voff ≤ nodeEnd n := Nat.le_add_right _ _
  have hcut (hv : off ≤ n.voff) (he : nodeEnd n ≤ stop) : slice buf off stop =
      slice buf off n.voff ++ (slice buf n.voff (nodeEnd n) ++ slice buf (nodeEnd n) stop) := by
    rw [slice_append_slice _ hvalue he, slice_append_slice _ hv (hvalue.trans he)]
  rw [parseHeader_eq_some_iff]
  constructor
  · rintro ⟨identifier, length, hbytes, hhdr, hvoff, hi, hl⟩
    have hlt := lt_voff_of_identifier hvoff hi
    have hend : nodeEnd n ≤ stop := by
      have := congrArg List.length hbytes
      simp only [length_slice_of_le hstop, List.length_append] at this
      unfold nodeEnd
      omega
    rw [hcut hlt.le hend, List.append_assoc (identifier ++ length)] at hbytes
    obtain ⟨hhead, htail⟩ := List.append_inj hbytes (by rw [length_slice_of_le (by omega), List.length_append]; omega)
    obtain ⟨hcontent, hrest⟩ := List.append_inj htail (by rw [length_slice_of_le (by omega), nodeEnd]; omega)
    exact ⟨⟨hhdr, hlt, hend, hend.trans hstop, hcontent.symm, identifier, length, hhdr ▸ hhead, hi, hl⟩, hrest.symm⟩
  · rintro ⟨⟨rfl, hlt, hend, _, hcontent, identifier, length, hhead, hi, hl⟩, rfl⟩
    have hlen := congrArg List.length hhead
    rw [length_slice_of_le (by omega), List.length_append] at hlen
    refine ⟨identifier, length, ?_, rfl, by omega, hi, hl⟩
    rw [hcut hlt.le hend, ← hhead, List.append_assoc, nodeEnd, ← hcontent]

/-- R271 to R273: what stands at an offset is determined by the bytes there. -/
theorem nodeStandsIn_unique {buf : Bytes} {n m : DerNode} (hn : nodeStandsIn buf n) (hm : nodeStandsIn buf m)
    (hnv : n.hdr < n.voff) (hmv : m.hdr < m.voff) (h : n.hdr = m.hdr) : n = m := by
  have hread (k : DerNode) (hk : nodeStandsIn buf k) (hkv : k.hdr < k.voff) :
      parseHeader k.hdr (slice buf k.hdr buf.length) = some (k, slice buf (nodeEnd k) buf.length) :=
    (parseHeader_slice_iff (by have := hk.1; omega) le_rfl k _).mpr ⟨⟨rfl, hkv, hk.1, hk⟩, rfl⟩
  have heq := hread m hm hmv
  rw [← h, hread n hn hnv] at heq
  exact congrArg Prod.fst (Option.some.inj heq)

/-- R277: what stands in a truncated buffer stands in the whole one. -/
theorem nodeStandsIn_of_take {buf : Bytes} {k : Nat} {n : DerNode} (h : nodeStandsIn (buf.take k) n) :
    nodeStandsIn buf n := by
  obtain ⟨hend, hvalue, identifier, length, hhead, hi, hl⟩ := h
  rw [List.length_take, le_min_iff] at hend
  rw [slice_take hend.1] at hvalue
  rw [slice_take ((Nat.le_add_right _ _).trans hend.1)] at hhead
  exact ⟨hend.2, hvalue, identifier, length, hhead, hi, hl⟩

/-! The tree (R274 to R276, R278). -/

/-- R274: the children of a constructed element fill its content, a primitive one has none. -/
def ChildrenFill (n : DerNode) (c : List Element) : Prop :=
  if n.constructed then tiledList n.voff (nodeEnd n) c else c = []

theorem tiled_mk_iff (off : Nat) (n : DerNode) (c : List Element) :
    (Element.mk n c).tiled off ↔ n.hdr = off ∧ off < n.voff ∧ ChildrenFill n c := Iff.rfl

theorem tiledList_nil_iff (off stop : Nat) : tiledList off stop [] ↔ off = stop := Iff.rfl

theorem tiledList_cons_iff (off stop : Nat) (e : Element) (es : List Element) :
    tiledList off stop (e :: es) ↔ e.tiled off ∧ tiledList (nodeEnd e.node) stop es := Iff.rfl

theorem tiledList_cons_mk_iff (off stop : Nat) (n : DerNode) (c es : List Element) :
    tiledList off stop (.mk n c :: es) ↔
      (n.hdr = off ∧ off < n.voff ∧ ChildrenFill n c) ∧ tiledList (nodeEnd n) stop es := Iff.rfl

theorem lt_nodeEnd_of_tiled {off : Nat} {e : Element} (h : e.tiled off) : off < nodeEnd e.node := by
  obtain ⟨n, c⟩ := e
  obtain ⟨-, hvoff, -⟩ := (tiled_mk_iff ..).mp h
  exact hvoff.trans_le (Nat.le_add_right _ _)

theorem le_of_tiledList {off stop : Nat} {es : List Element} (h : tiledList off stop es) : off ≤ stop := by
  induction es generalizing off with
  | nil => exact h.le
  | cons e es ih =>
    obtain ⟨he, hes⟩ := (tiledList_cons_iff ..).mp h
    exact (lt_nodeEnd_of_tiled he).le.trans (ih hes)

theorem preorderList_cons (d : Nat) (n : DerNode) (c es : List Element) :
    preorderList d (.mk n c :: es) = (d, n) :: (preorderList (d + 1) c ++ preorderList d es) := rfl

/-- R271 to R273, R276: the elements of this list, at depth `depth`, and those under them stand in the buffer, they are
counted from `nodes` up to `count`, and the limits are kept. -/
structure StandsCounted (buf : Bytes) (depth nodes : Nat) (es : List Element) (count : Nat) : Prop where
  count_eq : count = nodes + (preorderList depth es).length
  count_le : count ≤ Config.derMaxNodes
  stands : ∀ dn ∈ preorderList depth es, dn.1 < Config.derMaxDepth ∧ nodeStandsIn buf dn.2

theorem standsCounted_nil_iff (buf : Bytes) (depth : Nat) {nodes : Nat} (count : Nat) (h : nodes ≤ Config.derMaxNodes) :
    StandsCounted buf depth nodes [] count ↔ nodes = count :=
  ⟨fun hs => hs.count_eq.symm, fun heq => ⟨heq.symm, heq ▸ h, by simp [preorderList]⟩⟩

theorem standsCounted_cons_iff (buf : Bytes) (depth nodes count : Nat) (n : DerNode) (c es : List Element) :
    StandsCounted buf depth nodes (.mk n c :: es) count ↔
      (depth < Config.derMaxDepth ∧ nodes + 1 ≤ Config.derMaxNodes) ∧ nodeStandsIn buf n ∧
        ∃ count', StandsCounted buf (depth + 1) (nodes + 1) c count' ∧ StandsCounted buf depth count' es count := by
  constructor
  · rintro ⟨hcount, hle, hstands⟩
    simp only [preorderList_cons, List.length_cons, List.length_append] at hcount
    simp only [preorderList_cons, List.forall_mem_cons, List.forall_mem_append] at hstands
    obtain ⟨⟨hdepth, hn⟩, hc, hes⟩ := hstands
    exact ⟨⟨hdepth, by omega⟩, hn, _, ⟨rfl, by omega, hc⟩, ⟨by omega, hle, hes⟩⟩
  · rintro ⟨⟨hdepth, -⟩, hn, count', ⟨hcount', -, hc⟩, ⟨hcount, hle, hes⟩⟩
    refine ⟨?_, hle, ?_⟩
    · simp only [preorderList_cons, List.length_cons, List.length_append]
      omega
    · simp only [preorderList_cons, List.forall_mem_cons, List.forall_mem_append]
      exact ⟨⟨hdepth, hn⟩, hc, hes⟩

/-! The reader of a list (R274 to R276). -/

theorem parseList_nil (fuel off depth nodes : Nat) : parseList (fuel + 1) off [] depth nodes = some ([], nodes) := rfl

/-- The children of the element whose header was read, as `parseList` reads them. -/
def parseChildren (fuel : Nat) (n : DerNode) (depth nodes : Nat) : Option (List Element × Nat) :=
  if n.constructed then parseList fuel n.voff n.value depth nodes else some ([], nodes)

/-- R274, R275: a list that is not empty is read iff the limits allow one more element, and its header, its children
and its siblings are read. -/
theorem parseList_eq_some_iff {bs : Bytes} (hbs : bs ≠ []) (fuel off depth nodes count : Nat) (es : List Element) :
    parseList (fuel + 1) off bs depth nodes = some (es, count) ↔
      (depth < Config.derMaxDepth ∧ nodes + 1 ≤ Config.derMaxNodes) ∧
        ∃ n c siblings rest count', es = .mk n c :: siblings ∧ parseHeader off bs = some (n, rest) ∧
          parseChildren fuel n (depth + 1) (nodes + 1) = some (c, count') ∧
            parseList fuel (nodeEnd n) rest depth count' = some (siblings, count) := by
  obtain ⟨b, bs, rfl⟩ := List.exists_cons_of_ne_nil hbs
  rw [parseList]
  simp only [tooDeep_eq, tooMany_eq, Bool.or_eq_true, decide_eq_true_eq]
  split
  · exact iff_of_false (by simp) fun h => by omega
  constructor
  · intro h
    split at h
    · cases h
    rename_i n rest hheader
    split at h
    · cases h
    rename_i c count' hchildren
    split at h
    · cases h
    rename_i siblings count'' hsiblings
    cases h
    exact ⟨by omega, n, c, siblings, rest, count', rfl, hheader, hchildren, hsiblings⟩
  · rintro ⟨-, n, c, siblings, rest, count', rfl, hheader, hchildren, hsiblings⟩
    rw [parseChildren] at hchildren
    rw [nodeEnd] at hsiblings
    simp only [hheader, hchildren, hsiblings]

/-- R274 to R276: with this bound of its recursion, `parseList` delivers from every part of the buffer shorter than the
bound exactly the elements that stand there. -/
def ReadsParts (buf : Bytes) (fuel : Nat) : Prop :=
  ∀ (off stop depth nodes : Nat) (es : List Element) (count : Nat),
    off ≤ stop → stop ≤ buf.length → stop - off < fuel → nodes ≤ Config.derMaxNodes →
      (parseList fuel off (slice buf off stop) depth nodes = some (es, count) ↔
        tiledList off stop es ∧ StandsCounted buf depth nodes es count)

section
variable {buf : Bytes} {fuel off stop depth nodes count : Nat}

/-- R274: the empty part. -/
theorem parseList_nil_iff (es : List Element) (hnodes : nodes ≤ Config.derMaxNodes) :
    parseList (fuel + 1) off [] depth nodes = some (es, count) ↔
      tiledList off off es ∧ StandsCounted buf depth nodes es count := by
  rw [parseList_nil]
  cases es with
  | nil => simp [tiledList_nil_iff, standsCounted_nil_iff buf depth count hnodes]
  | cons e es =>
    refine iff_of_false (by simp) fun ⟨htiled, _⟩ => ?_
    obtain ⟨he, hes⟩ := (tiledList_cons_iff ..).mp htiled
    exact absurd (lt_nodeEnd_of_tiled he) (le_of_tiledList hes).not_gt

/-- R274: the children of an element that stands in the buffer. -/
theorem ReadsParts.children_iff (h : ReadsParts buf fuel) {n : DerNode} (hn : nodeStandsIn buf n)
    (hfuel : n.value.length < fuel) (c : List Element) (hnodes : nodes ≤ Config.derMaxNodes) :
    parseChildren fuel n depth nodes = some (c, count) ↔ ChildrenFill n c ∧ StandsCounted buf depth nodes c count := by
  unfold parseChildren ChildrenFill
  split
  · rw [value_eq_slice hn]
    exact h _ _ depth nodes c count (Nat.le_add_right _ _) hn.1 (by rw [nodeEnd]; omega) hnodes
  · rw [Option.some.injEq, Prod.mk.injEq, eq_comm]
    exact and_congr_right fun hc => by rw [hc, standsCounted_nil_iff _ _ _ hnodes]

/-- R271 to R276: a part that is not empty. -/
theorem ReadsParts.parseList_iff (h : ReadsParts buf fuel) (es : List Element) (hlt : off < stop)
    (hstop : stop ≤ buf.length) (hfuel : stop - off < fuel + 1) :
    parseList (fuel + 1) off (slice buf off stop) depth nodes = some (es, count) ↔
      tiledList off stop es ∧ StandsCounted buf depth nodes es count := by
  have hlen := length_slice_of_le (i := off) hstop
  rw [parseList_eq_some_iff (List.ne_nil_of_length_pos (by omega))]
  cases es with
  | nil => exact iff_of_false (by simp) fun ⟨htiled, _⟩ => hlt.ne htiled
  | cons e es =>
    obtain ⟨n, c⟩ := e
    have hend : nodeEnd n = n.voff + n.value.length := rfl
    rw [tiledList_cons_mk_iff, standsCounted_cons_iff]
    constructor
    · rintro ⟨⟨hdepth, hroom⟩, _, _, _, rest, count', heq, hheader, hc, hes⟩
      cases heq
      obtain ⟨⟨hhdr, hvoff, hle, hn⟩, rfl⟩ := (parseHeader_slice_iff hlt.le hstop n rest).mp hheader
      obtain ⟨hfill, hc⟩ := (h.children_iff hn (by omega) c hroom).mp hc
      obtain ⟨htiled, hes⟩ := (h _ _ depth count' es count hle hstop (by omega) hc.count_le).mp hes
      exact ⟨⟨⟨hhdr, hvoff, hfill⟩, htiled⟩, ⟨hdepth, hroom⟩, hn, count', hc, hes⟩
    · rintro ⟨⟨⟨hhdr, hvoff, hfill⟩, htiled⟩, ⟨hdepth, hroom⟩, hn, count', hc, hes⟩
      have hle := le_of_tiledList htiled
      exact ⟨⟨hdepth, hroom⟩, n, c, es, _, count', rfl,
        (parseHeader_slice_iff hlt.le hstop n _).mpr ⟨⟨hhdr, hvoff, hle, hn⟩, rfl⟩,
        (h.children_iff hn (by omega) c hroom).mpr ⟨hfill, hc⟩,
        (h _ _ depth count' es count hle hstop (by omega) hc.count_le).mpr ⟨htiled, hes⟩⟩

end

/-- A bound of the recursion above the number of bytes never stops it (log 13). -/
theorem readsParts (buf : Bytes) (fuel : Nat) : ReadsParts buf fuel := by
  induction fuel with
  | zero => exact fun _ _ _ _ _ _ _ _ hfuel _ => absurd hfuel (Nat.not_lt_zero _)
  | succ fuel ih =>
    intro off stop depth nodes es count hle hstop hfuel hnodes
    rcases hle.eq_or_lt with rfl | hlt
    · rw [slice_self]
      exact parseList_nil_iff es hnodes
    · exact ih.parseList_iff es hlt hstop hfuel

/-! The top-level parse (R275 to R277). -/

theorem parseDer_nil : parseDer [] = some [] := rfl

/-- R275: the whole buffer is the part from 0 to its end, read with no element before it. -/
theorem parseDer_eq_some_iff (buf : Bytes) (es : List Element) :
    parseDer buf = some es ↔
      tiledList 0 buf.length es ∧ ∃ count, StandsCounted buf 0 0 es count := by
  have hlist (count : Nat) := readsParts buf (buf.length + 1) 0 buf.length 0 0 es count (Nat.zero_le _) le_rfl
    (Nat.lt_succ_self _) (Nat.zero_le _)
  rw [slice_zero_length] at hlist
  calc parseDer buf = some es
    _ ↔ ∃ count, parseList (buf.length + 1) 0 buf 0 0 = some (es, count) := by simp [parseDer]
    _ ↔ _ := by simp only [hlist, exists_and_left]

/-- The first element of a parse begins with the buffer and stands in it. -/
theorem first_of_parseDer {buf : Bytes} {e : Element} {es : List Element} (h : parseDer buf = some (e :: es)) :
    e.node.hdr = 0 ∧ 0 < e.node.voff ∧ nodeStandsIn buf e.node ∧ tiledList (nodeEnd e.node) buf.length es := by
  obtain ⟨n, c⟩ := e
  obtain ⟨htiled, count, hstands⟩ := (parseDer_eq_some_iff buf _).mp h
  obtain ⟨⟨hhdr, hvoff, -⟩, hes⟩ := (tiledList_cons_mk_iff ..).mp htiled
  obtain ⟨-, hn, -⟩ := (standsCounted_cons_iff ..).mp hstands
  exact ⟨hhdr, hvoff, hn, hes⟩

/-- R277: a parse of a truncated buffer would begin with the same element, which ends beyond it. -/
theorem parseDer_take_eq_none {buf : Bytes} {e : Element} {n : Nat} (h : parseDer buf = some [e]) (hn : n < buf.length)
    (hpos : 0 < n) : parseDer (buf.take n) = none := by
  obtain ⟨hhdr, hvoff, hstands, hend⟩ := first_of_parseDer h
  rw [Option.eq_none_iff_forall_ne_some]
  intro es hes
  have hlen : (buf.take n).length = n := by rw [List.length_take]; omega
  cases es with
  | nil =>
    have := (tiledList_nil_iff ..).mp ((parseDer_eq_some_iff ..).mp hes).1
    omega
  | cons e' es =>
    obtain ⟨hhdr', hvoff', hstands', -⟩ := first_of_parseDer hes
    have hsame : e'.node = e.node := nodeStandsIn_unique (nodeStandsIn_of_take hstands') hstands (by omega) (by omega)
      (by omega)
    have hfits : nodeEnd e'.node ≤ (buf.take n).length := hstands'.1
    rw [hsame, (tiledList_nil_iff ..).mp hend] at hfits
    omega

/-! The command (R278). -/

theorem exec_derParse (s : State) (rd rs1 : Slot) : exec (.derParse rd rs1) s = execDerParse rd rs1 s := rfl

theorem length_nodeRecords (nodes : List (Nat × DerNode)) : (nodes.flatMap nodeRecord).length = 16 * nodes.length := by
  simp [List.length_flatMap, mul_comm]

end Sys2Proof.Machine
end

section
/-! The statements about DER (45_der.md). -/

namespace Sys2Proof.Machine

open Sys2Proof

/-- Settles O48: the reader's count is the number of elements, so the limit on one is the limit on the other. -/
theorem derTreeIsFaithful : Obligations.DerTreeIsFaithful := by
  intro buf es
  rw [parseDer_eq_some_iff]
  refine and_congr_right fun _ => ⟨?_, ?_⟩
  · rintro ⟨count, hcount, hle, hstands⟩
    exact ⟨by omega, hstands⟩
  · rintro ⟨hle, hstands⟩
    exact ⟨_, (Nat.zero_add _).symm, hle, hstands⟩

/-- Settles O49: the element a truncated buffer begins with is that of the whole one, and CERT_PARSE needs a first element. -/
theorem truncationFails : Obligations.TruncationFails := by
  intro buf e n h hn
  refine ⟨parseDer_take_eq_none h hn, ?_⟩
  rcases Nat.eq_zero_or_pos n with rfl | hpos
  · rw [List.take_zero, parseCertificate, parseDer_nil]
  · rw [parseCertificate, parseDer_take_eq_none h hn hpos]

/-- Settles O47: DER_PARSE has no checks, and delivers 16 bytes for each element. -/
theorem derParseCommand : Obligations.DerParseCommand := by
  intro s rd rs1
  rw [exec_derParse, execDerParse, State.run_of_none _ _ _ _ firstFailure_nil]
  refine ⟨fun es hes => ?_, fun hnone => ?_⟩
  · simp only [hes, State.deliver_eq, length_nodeRecords]
    split
    case isTrue hfits =>
      rw [if_neg (Nat.not_lt.mpr hfits), countWord_of_le _ (by omega)]
      exact completesOk_one s rd _ _
    case isFalse hover =>
      rw [if_pos (Nat.lt_of_not_le hover)]
      exact failsWith_raise s [rd] .overflow rfl
  · simp only [hnone]
    exact failsWith_raise s [rd] .parseError rfl

end Sys2Proof.Machine
end

section
/-! SUPPORT. What the certificate commands check (46_certificate.md R299, R316), the entry CERT_PARSE fills (R300), the
validity window (R315), what the accessors read of an extension (R308 to R311), and the fields of a record (R307). -/

namespace Sys2Proof.Machine

open Sys2Proof

/-! Commands that read an entry of the certificate table (R299, R380). -/

/-- The first failing check of a command ends it. -/
theorem failsWith_run (s : State) {ds : List Slot} {cs : List (Option Failure)} (body : Unit → State) {f : Failure}
    (h : firstFailure cs = some f) (hf : f.clearsDests = true) : FailsWith (s.run ds cs body) s ds f := by
  rw [State.run_of_some _ _ _ _ _ h]
  exact failsWith_raise s ds f hf

/-- A command that passes its checks and finds its entry invalid. -/
theorem failsWith_run_noCert (s : State) (ds : List Slot) {cs : List (Option Failure)} {idx : Nat}
    (body : CertRecord → State) (h : firstFailure cs = none) (hcert : s.cert idx = none) :
    FailsWith (s.run ds cs fun _ => s.withCert ds idx body) s ds .noCert := by
  rw [State.run_of_none _ _ _ _ h, State.withCert_none _ _ _ _ hcert]
  exact failsWith_raise s ds .noCert rfl

/-- A command that passes its checks and finds a record in its entry. -/
theorem run_withCert (s : State) (ds : List Slot) {cs : List (Option Failure)} {idx : Nat} {r : CertRecord}
    (body : CertRecord → State) (h : firstFailure cs = none) (hcert : s.cert idx = some r) :
    (s.run ds cs fun _ => s.withCert ds idx body) = .next (body r) := by
  rw [State.run_of_none _ _ _ _ h, State.withCert_some _ _ _ _ _ hcert]

/-- R79: a result that fits a slot. -/
theorem completesOk_deliver (s : State) (rd : Slot) {out : Bytes} (v : Word32) (h : out.length ≤ Config.slotMax) :
    CompletesOk (.next (s.deliver rd out v)) s (written s rd out) v := by
  rw [State.deliver_eq, if_neg (Nat.not_lt.mpr h)]
  exact completesOk_one s rd out v

/-- R79: a result that does not. -/
theorem failsWith_deliver (s : State) (rd : Slot) {out : Bytes} (v : Word32) (h : Config.slotMax < out.length) :
    FailsWith (.next (s.deliver rd out v)) s [rd] .overflow := by
  rw [State.deliver_eq, if_pos h]
  exact failsWith_raise s [rd] .overflow rfl

section
variable (s : State) (rd rs1 rs2 : Slot) (imm : Word32)

theorem exec_certParse : exec (.certParse rs1 imm) s = execCertParse rs1 imm s := rfl

theorem exec_certField : exec (.certField rd imm) s = execCertField rd imm s := rfl

theorem exec_certSan : exec (.certSan rd imm) s = execCertSan rd imm s := rfl

theorem exec_certBc : exec (.certBc imm) s = execCertBc imm s := rfl

theorem exec_certKu : exec (.certKu imm) s = execCertKu imm s := rfl

theorem exec_certHostname : exec (.certHostname rs1 imm) s = execCertHostname rs1 imm s := rfl

theorem exec_hostnameMatch : exec (.hostnameMatch rs1 rs2) s = execHostnameMatch rs1 rs2 s := rfl

theorem exec_certValidity : exec (.certValidity rs1 imm) s = execCertValidity rs1 imm s := rfl

theorem exec_chainValidate : exec (.chainValidate rs1 imm) s = execChainValidate rs1 imm s := rfl

theorem exec_tsAdd : exec (.tsAdd rs1) s = execTsAdd rs1 s := rfl

theorem exec_tsQuery : exec (.tsQuery imm) s = execTsQuery imm s := rfl

theorem exec_ocspCheck : exec (.ocspCheck rs1 rs2 imm) s = execOcspCheck rs1 rs2 imm s := rfl

/-- R299: the commands without a destination that name an entry by the whole immediate check it first. -/
theorem exec_checks_index : ∀ i ∈ [Instr.certParse rs1 imm, .certBc imm, .certKu imm, .certHostname rs1 imm,
    .certValidity rs1 imm, .tsQuery imm, .ocspCheck rs1 rs2 imm],
    ∃ more body, exec i s = s.run [] (checkIndex imm.toNat :: more) body := by
  simp only [List.forall_mem_cons, exec_certParse, exec_certBc, exec_certKu, exec_certHostname, exec_certValidity,
    exec_tsQuery, exec_ocspCheck]
  exact ⟨⟨_, _, rfl⟩, ⟨_, _, rfl⟩, ⟨_, _, rfl⟩, ⟨_, _, rfl⟩, ⟨_, _, rfl⟩, ⟨_, _, rfl⟩, ⟨_, _, rfl⟩,
    List.forall_mem_nil _⟩

/-- R299: four of them check nothing else before they read the entry. -/
theorem exec_reads_cert : ∀ i ∈ [Instr.certBc imm, .certKu imm, .certHostname rs1 imm, .tsQuery imm],
    ∃ body, exec i s = s.run [] [checkIndex imm.toNat] fun _ => s.withCert [] imm.toNat body := by
  simp only [List.forall_mem_cons, exec_certBc, exec_certKu, exec_certHostname, exec_tsQuery]
  exact ⟨⟨_, rfl⟩, ⟨_, rfl⟩, ⟨_, rfl⟩, ⟨_, rfl⟩, List.forall_mem_nil _⟩

/-- R316, R323: two of them check the length of the time before they read the entry. -/
theorem exec_checks_time : ∀ i ∈ [Instr.certValidity rs1 imm, .ocspCheck rs1 rs2 imm],
    ∃ body, exec i s = s.run [] [checkIndex imm.toNat, checkLength 1 (s.slot rs1) 8] fun _ =>
      s.withCert [] imm.toNat body := by
  simp only [List.forall_mem_cons, exec_certValidity, exec_ocspCheck]
  exact ⟨⟨_, rfl⟩, ⟨_, rfl⟩, List.forall_mem_nil _⟩

end

/-! Certificates parsed (R300). -/

/-- R300: CERT_PARSE of the bytes of a certificate. -/
theorem exec_certParse_of_some {s : State} {rs1 : Slot} {imm : Word32} {r : CertRecord} (h : imm.toNat < 16)
    (hr : parseCertificate (s.slot rs1) = some r) :
    exec (.certParse rs1 imm) s = .next ((s.setCert imm.toNat (some r)).succeed [] r.version) := by
  rw [exec_certParse, execCertParse, State.run_of_none _ _ _ _ (by simp [h]), hr]

/-- R300: CERT_PARSE of bytes that are none. -/
theorem exec_certParse_of_none {s : State} {rs1 : Slot} {imm : Word32} (h : imm.toNat < 16)
    (hr : parseCertificate (s.slot rs1) = none) :
    exec (.certParse rs1 imm) s = .next ((s.setCert imm.toNat none).raise [] .parseError) := by
  rw [exec_certParse, execCertParse, State.run_of_none _ _ _ _ (by simp [h]), hr]

/-- Neither end of a command writes the certificate table. -/
@[simp] theorem State.cert_succeed (s : State) (ws : List (Slot × Bytes)) (v : Word32) (k : Nat) :
    (s.succeed ws v).cert k = s.cert k := by rw [State.cert, State.cert, State.succeed_ct]

@[simp] theorem State.cert_raise (s : State) (ds : List Slot) (f : Failure) (k : Nat) :
    (s.raise ds f).cert k = s.cert k := by rw [State.cert, State.cert, State.raise_ct]

/-- How a command ended does not speak of the certificate table or the trust store it began with. -/
theorem Ended.of_tables {s t : State} {ct : Vector (Option CertRecord) 16} {ts : List Bytes} {c : ResultCode}
    {v e : Word32} (h : Ended { s with ct := ct, ts := ts } t c v e) : Ended s t c v e :=
  { h with }

/-! Time (R315). -/

theorem timeLe_iff (a b : Word64) : timeLe a b = true ↔ a.toInt ≤ b.toInt := by
  rw [timeLe, BitVec.sle_eq_decide, decide_eq_true_eq]

theorem toInt_timeOperand (b : Bytes) : (timeOperand b).toInt = nowOf b := rfl

/-- R315: the model's test of a window is the window. -/
theorem checkValidity_iff (r : CertRecord) (b : Bytes) :
    checkValidity r (timeOperand b) = true ↔ validAt r (nowOf b) := by
  rw [checkValidity, Bool.and_eq_true, timeLe_iff, timeLe_iff, toInt_timeOperand, validAt]

theorem boolWord_eq (b : Bool) : boolWord b = if b = true then 1 else 0 := rfl

/-! Extensions (R308 to R311). -/

/-- R308: what is present was read from some element. -/
theorem exists_of_viewExt_present {α : Type} {r : CertRecord} {oid : Bytes} {view : Element → Option α} {a : α}
    (h : viewExt r oid view = .present a) : ∃ e, view e = some a := by
  unfold viewExt at h
  split at h
  · cases h
  split at h
  · rename_i e _ _
    split at h
    · rename_i a' ha
      cases h
      exact ⟨e, ha⟩
    · cases h
  · cases h

/-- R309: what `san` reads of the first element. -/
def readSan (e : Element) : Option (List Bytes) :=
  if e.is 0 true 16 then some ((e.children.filter fun c => c.is 2 false 2).map Element.value) else none

theorem san_eq (r : CertRecord) : san r = viewExt r oidSan readSan := rfl

theorem readSan_eq_some_iff (e : Element) (names : List Bytes) : readSan e = some names ↔ sanReads e names := by
  rw [readSan, sanReads, Option.ite_none_right_eq_some, Option.some.injEq, eq_comm (a := names)]

theorem getLsbD_seven_iff (b : Byte) : b.getLsbD 7 = true ↔ 128 ≤ b.toNat := by
  revert b; decide

section
variable {p : Element} {rest : List Element} {len : Option Nat}

theorem pathLenReads_nil_iff : pathLenReads [] len ↔ len = none := by
  simp [pathLenReads]

theorem pathLenReads_integer_iff (hp : p.is 0 false 2 = true) :
    pathLenReads (p :: rest) len ↔
      ∃ x xs, p.value = x :: xs ∧ x.toNat < 128 ∧ be p.value < 2 ^ 24 ∧ len = some (be p.value) := by
  constructor
  · rintro (⟨_, _, x, xs, heq, -, hread⟩ | ⟨hother, -⟩)
    · cases heq
      exact ⟨x, xs, hread⟩
    · cases hp.symm.trans (hother p rest rfl)
  · rintro ⟨x, xs, hread⟩
    exact .inl ⟨p, rest, x, xs, rfl, hp, hread⟩

theorem pathLenReads_other_iff (hp : p.is 0 false 2 = false) : pathLenReads (p :: rest) len ↔ len = none := by
  constructor
  · rintro (⟨_, _, _, _, heq, hint, -⟩ | ⟨-, hlen⟩)
    · cases heq
      cases hp.symm.trans hint
    · exact hlen
  · exact fun hlen => .inr ⟨fun _ _ heq => by cases heq; exact hp, hlen⟩

end

/-- R310: the optional pathLen child. -/
theorem bcPathLen_eq_some_iff (isCA : Bool) (c : List Element) (b : BasicConstraints) :
    bcPathLen isCA c = some b ↔ b.isCA = isCA ∧ pathLenReads c b.pathLen := by
  obtain ⟨isCA', len⟩ := b
  have hsome (n : Option Nat) : some (⟨isCA, n⟩ : BasicConstraints) = some ⟨isCA', len⟩ ↔ isCA' = isCA ∧ len = n := by
    rw [Option.some.injEq, BasicConstraints.mk.injEq, eq_comm, eq_comm (a := n)]
  cases c with
  | nil => rw [bcPathLen, pathLenReads_nil_iff, hsome]
  | cons p rest =>
    rw [bcPathLen]
    cases hp : p.is 0 false 2 with
    | false => rw [if_neg Bool.false_ne_true, pathLenReads_other_iff hp, hsome]
    | true =>
      rw [if_pos rfl, pathLenReads_integer_iff hp]
      cases hv : p.value with
      | nil => simp
      | cons x xs =>
        simp only [Bool.or_eq_true, decide_eq_true_eq, getLsbD_seven_iff]
        split
        · rename_i hlimit
          refine iff_of_false (by simp) ?_
          rintro ⟨-, _, _, heq, hx, hbe, -⟩
          cases heq
          omega
        · rw [hsome]
          refine and_congr_right fun _ => ⟨fun hlen => ⟨x, xs, rfl, by omega, by omega, hlen⟩, ?_⟩
          rintro ⟨_, _, -, -, -, hlen⟩
          exact hlen

/-- R310: what `basicConstraints` reads of the children of the first element. -/
def readConstraints : List Element → Option BasicConstraints
  | c :: rest =>
    if c.is 0 false 1 then
      match c.value with
      | b :: _ => bcPathLen (b != 0#8) rest
      | [] => none
    else bcPathLen false (c :: rest)
  | [] => bcPathLen false []

/-- R310: what `basicConstraints` reads of the first element. -/
def readBasicConstraints (e : Element) : Option BasicConstraints :=
  if e.is 0 true 16 then readConstraints e.children else none

theorem basicConstraints_eq (r : CertRecord) :
    basicConstraints r = viewExt r oidBasicConstraints readBasicConstraints := rfl

/-- R310: the first child is a BOOLEAN, or there is none. -/
theorem readConstraints_eq_some_iff (c : List Element) (b : BasicConstraints) :
    readConstraints c = some b ↔
      (∃ p rest x xs, c = p :: rest ∧ p.is 0 false 1 = true ∧ p.value = x :: xs ∧ (b.isCA = true ↔ x ≠ 0) ∧
          pathLenReads rest b.pathLen) ∨
        ((∀ p rest, c = p :: rest → p.is 0 false 1 = false) ∧ b.isCA = false ∧ pathLenReads c b.pathLen) := by
  cases c with
  | nil => simp [readConstraints, bcPathLen_eq_some_iff]
  | cons p rest =>
    rw [readConstraints]
    cases hp : p.is 0 false 1 with
    | false =>
      rw [if_neg Bool.false_ne_true, bcPathLen_eq_some_iff]
      refine ⟨fun h => .inr ⟨fun _ _ heq => by cases heq; exact hp, h⟩, ?_⟩
      rintro (⟨_, _, _, _, heq, hbool, -⟩ | ⟨-, h⟩)
      · cases heq
        cases hp.symm.trans hbool
      · exact h
    | true =>
      rw [if_pos rfl]
      constructor
      · intro h
        split at h
        · rename_i x xs hv
          obtain ⟨hca, hlen⟩ := (bcPathLen_eq_some_iff ..).mp h
          exact .inl ⟨p, rest, x, xs, rfl, hp, hv, by rw [hca, bne_iff_ne]; rfl, hlen⟩
        · cases h
      · rintro (⟨_, _, x, xs, heq, -, hv, hca, hlen⟩ | ⟨hother, -⟩)
        · cases heq
          rw [hv]
          refine (bcPathLen_eq_some_iff ..).mpr ⟨?_, hlen⟩
          rw [Bool.eq_iff_iff, hca, bne_iff_ne]; rfl
        · cases hp.symm.trans (hother p rest rfl)

theorem readBasicConstraints_eq_some_iff (e : Element) (b : BasicConstraints) :
    readBasicConstraints e = some b ↔ basicConstraintsReads e b := by
  rw [readBasicConstraints, basicConstraintsReads, Option.ite_none_right_eq_some, readConstraints_eq_some_iff]

/-- R310: a pathLen is below 2^24. -/
theorem lt_of_pathLenReads {c : List Element} {len : Option Nat} (h : pathLenReads c len) : len.getD 0 < 2 ^ 24 := by
  obtain ⟨p, -, -, -, -, -, -, -, hlt, rfl⟩ | ⟨-, rfl⟩ := h
  · exact hlt
  · decide

theorem pathLen_lt_of_present {r : CertRecord} {b : BasicConstraints} (h : basicConstraints r = .present b) :
    b.pathLen.getD 0 < 2 ^ 24 := by
  rw [basicConstraints_eq] at h
  obtain ⟨e, he⟩ := exists_of_viewExt_present h
  obtain ⟨-, ⟨_, _, _, _, -, -, -, -, hlen⟩ | ⟨-, -, hlen⟩⟩ := (readBasicConstraints_eq_some_iff e b).mp he
  · exact lt_of_pathLenReads hlen
  · exact lt_of_pathLenReads hlen

/-- R311: what `keyUsage` reads of the first element. -/
def readKeyUsage (e : Element) : Option (BitVec 16) := (bitsOf e).map keyUsageMask

theorem keyUsage_eq (r : CertRecord) : keyUsage r = viewExt r oidKeyUsage readKeyUsage := rfl

/-- R306: a BIT STRING of at least one byte. -/
theorem bitsOf_eq_some_iff (e : Element) (b : Bytes) :
    bitsOf e = some b ↔ e.is 0 false 3 = true ∧ ∃ unused, e.value = unused :: b := by
  rw [bitsOf, Option.ite_none_right_eq_some, Bool.and_eq_true, and_assoc]
  refine and_congr_right fun _ => ?_
  rw [Element.length, ← Element.value]
  cases e.value <;> simp

/-- R311: the loop of the mask after its first `k` bits. -/
def maskOfBits (b : Bytes) (k : Nat) : BitVec 16 :=
  (List.range k).foldl (fun m n => if namedBit b n then m ||| (1#16 <<< n) else m) 0#16

theorem keyUsageMask_eq (b : Bytes) : keyUsageMask b = maskOfBits b 16 := rfl

theorem maskOfBits_succ (b : Bytes) (k : Nat) :
    maskOfBits b (k + 1) = if namedBit b k then maskOfBits b k ||| (1#16 <<< k) else maskOfBits b k := by
  rw [maskOfBits, List.range_succ, List.foldl_append]
  rfl

theorem getLsbD_maskOfBits (b : Bytes) (k n : Nat) (hn : n < 16) :
    (maskOfBits b k).getLsbD n = (decide (n < k) && namedBit b n) := by
  induction k with
  | zero => simp [maskOfBits]
  | succ k ih =>
    have hbit : (1#16 <<< k).getLsbD n = decide (n = k) := by
      rw [← BitVec.twoPow_eq, BitVec.getLsbD_twoPow, ← Bool.decide_and, decide_eq_decide]
      omega
    rw [maskOfBits_succ]
    by_cases hnk : n = k
    · subst hnk
      split <;> simp_all
    · have hlt : n < k + 1 ↔ n < k := by omega
      split <;> simp [ih, hbit, hnk, hlt]

/-- R311: the mask holds the named bits 0 to 15. -/
theorem readKeyUsage_eq_some_iff (e : Element) (mask : BitVec 16) :
    readKeyUsage e = some mask ↔ keyUsageReads e mask := by
  have hmask (b : Bytes) : keyUsageMask b = mask ↔
      ∀ n, n < 16 → mask.getLsbD n = (b.getD (n / 8) 0).getLsbD (7 - n % 8) := by
    rw [keyUsageMask_eq, BitVec.eq_of_getLsbD_eq_iff]
    refine forall₂_congr fun n hn => ?_
    rw [getLsbD_maskOfBits b 16 n hn, decide_eq_true hn, Bool.true_and, namedBit, eq_comm]
  simp only [readKeyUsage, Option.map_eq_some_iff, bitsOf_eq_some_iff, keyUsageReads, hmask]
  constructor
  · rintro ⟨b, ⟨his, unused, hv⟩, hbits⟩
    exact ⟨his, unused, b, hv, hbits⟩
  · rintro ⟨his, unused, b, hv, hbits⟩
    exact ⟨b, ⟨his, unused, hv⟩, hbits⟩

/-! RETVAL of the accessors (R309 to R311). -/

/-- R310: the fields of the word do not overlap. -/
theorem bcWord_eq {b : BasicConstraints} (h : b.pathLen.getD 0 < 2 ^ 24) :
    bcWord b = BitVec.ofNat 32 (1 + 2 * b.isCA.toNat + 4 * b.pathLen.isSome.toNat + 256 * b.pathLen.getD 0) := by
  have hflags (x y : Bool) : 1#32 ||| (boolWord x <<< 1) ||| (boolWord y <<< 2) =
      BitVec.ofNat 32 (1 + 2 * x.toNat + 4 * y.toNat) := by
    revert x y; decide
  have hsmall : 1 + 2 * b.isCA.toNat + 4 * b.pathLen.isSome.toNat < 2 ^ 8 := by
    have hca := Bool.toNat_le b.isCA
    have hlen := Bool.toNat_le b.pathLen.isSome
    omega
  rw [bcWord, hflags]
  apply BitVec.eq_of_toNat_eq
  simp only [BitVec.toNat_or, BitVec.toNat_shiftLeft, BitVec.toNat_ofNat]
  rw [Nat.mod_eq_of_lt (by omega), Nat.mod_eq_of_lt (show b.pathLen.getD 0 < 2 ^ 32 by omega),
    Nat.mod_eq_of_lt (by rw [Nat.shiftLeft_eq]; omega), Nat.or_comm, ← Nat.shiftLeft_add_eq_or_of_lt hsmall,
    Nat.shiftLeft_eq]
  omega

/-- R311: the mask lies below the bit that says the extension is there. -/
theorem keyUsageWord_eq (mask : BitVec 16) :
    mask.setWidth 32 ||| (1#32 <<< 16) = BitVec.ofNat 32 (65536 + mask.toNat) := by
  have hmask := mask.isLt
  apply BitVec.eq_of_toNat_eq
  rw [BitVec.toNat_or, BitVec.toNat_setWidth, BitVec.toNat_ofNat, Nat.mod_eq_of_lt (by omega),
    Nat.mod_eq_of_lt (by omega), Nat.or_comm]
  exact (Nat.shiftLeft_add_eq_or_of_lt hmask 1).symm

/-- R309: the count lies below the bit that says the extension is there. -/
theorem sanWord_eq {n : Nat} (h : n < 2 ^ 31) : 1#1 ++ BitVec.ofNat 31 n = BitVec.ofNat 32 (2 ^ 31 + n) := by
  apply BitVec.eq_of_toNat_eq
  rw [toNat_append_eq, BitVec.toNat_ofNat, BitVec.toNat_ofNat, BitVec.toNat_ofNat]
  omega

/-! Fields (R307). -/

/-- Items of at least `k` bytes each: the count of a result that fits a slot fits 32 bits. -/
theorem mul_length_le_length_flatMap {α : Type} (f : α → Bytes) (k : Nat) (h : ∀ a, k ≤ (f a).length) (l : List α) :
    k * l.length ≤ (l.flatMap f).length := by
  induction l with
  | nil => simp
  | cons a l ih =>
    have ha := h a
    rw [List.flatMap_cons, List.length_append, List.length_cons, Nat.mul_succ]
    omega

theorem length_le_length_pairsBytes (l : List NameAttr) : l.length ≤ (pairsBytes l).length := by
  rw [pairsBytes, ← Nat.one_mul l.length]
  exact mul_length_le_length_flatMap _ 1 (fun a => by simp only [List.length_append, length_toBe]; omega) l

theorem length_le_length_extensionsBytes (l : List Extension) : l.length ≤ (extensionsBytes l).length := by
  rw [extensionsBytes, ← Nat.one_mul l.length]
  exact mul_length_le_length_flatMap _ 1 (fun e => by simp only [List.length_append, length_toBe]; omega) l

/-- R94: the field number. -/
theorem toNat_fid (imm : Word32) : (imm.extractLsb' 0 8).toNat = imm.toNat % 256 := by
  rw [BitVec.extractLsb'_toNat, Nat.shiftRight_zero]

/-- R94: the index above it. -/
theorem toNat_idx {imm : Word32} (h : imm.toNat < 65536) : (imm.extractLsb' 8 8).toNat = imm.toNat / 256 := by
  rw [BitVec.extractLsb'_toNat, Nat.shiftRight_eq_div_pow]
  omega

theorem high_eq_zero_iff (imm : Word32) : (imm.extractLsb' 16 16 == 0#16) = true ↔ imm.toNat < 65536 := by
  have himm := imm.isLt
  rw [beq_iff_eq, ← BitVec.toNat_inj, BitVec.extractLsb'_toNat, Nat.shiftRight_eq_div_pow, BitVec.toNat_ofNat]
  omega

/-- R307: the immediate is good. -/
theorem fieldImm_iff (imm : Word32) :
    (imm.extractLsb' 16 16 == 0#16 && decide ((imm.extractLsb' 0 8).toNat ≤ 13)) = true ↔
      imm.toNat < 65536 ∧ imm.toNat % 256 ≤ 13 := by
  rw [Bool.and_eq_true, high_eq_zero_iff, decide_eq_true_eq, toNat_fid]

/-- R307: a field of a record that the checks let through is delivered. -/
theorem exec_certField_of_field {s : State} (rd : Slot) {imm : Word32} {r : CertRecord} {out : Bytes} {v : Word32}
    (himm : imm.toNat < 65536 ∧ imm.toNat % 256 ≤ 13) (hidx : imm.toNat / 256 < 16)
    (hcert : s.cert (imm.toNat / 256) = some r) (hfield : certField r (imm.toNat % 256) = some (out, v)) :
    exec (.certField rd imm) s = .next (s.deliver rd out v) := by
  rw [exec_certField, execCertField, (fieldImm_iff imm).mpr himm, toNat_fid, toNat_idx himm.1,
    run_withCert s [rd] _ (by simp [hidx]) hcert, hfield]

end Sys2Proof.Machine
end

section
/-! SUPPORT. Names and their first labels (46_certificate.md R312, R314), the first failing position of a chain (R317),
the ends of TS_ADD and TS_QUERY (R320, R321), and OCSP lists read record by record (R322, R323). -/

namespace Sys2Proof.Machine

open Sys2Proof

/-! Names (R312, R314). -/

/-- R312: the first label is what stands before the first dot. -/
theorem afterFirstLabel_eq_some_iff (h rest : Bytes) :
    afterFirstLabel h = some rest ↔ ∃ label, label ≠ [] ∧ 0x2e#8 ∉ label ∧ h = label ++ 0x2e#8 :: rest := by
  rw [afterFirstLabel, List.span_eq_takeWhile_dropWhile]
  constructor
  · intro hafter
    have hhead := List.head?_dropWhile_not (fun c => c != 0x2e#8) h
    split at hafter
    · rename_i c label dot rest' heq
      obtain ⟨htake, hdrop⟩ := Prod.mk.inj heq
      cases hafter
      rw [hdrop] at hhead
      obtain rfl : dot = 0x2e#8 := by simpa using hhead
      refine ⟨c :: label, List.cons_ne_nil _ _, fun hmem => ?_, ?_⟩
      · rw [← htake] at hmem
        simpa using List.mem_takeWhile_imp hmem
      · rw [← htake, ← hdrop, List.takeWhile_append_dropWhile]
    · cases hafter
  · rintro ⟨label, hne, hdot, rfl⟩
    have hall : ∀ c ∈ label, (c != 0x2e#8) = true := fun c hc => bne_iff_ne.mpr fun heq => hdot (heq ▸ hc)
    rw [List.takeWhile_append_of_pos hall, List.dropWhile_append_of_pos hall]
    obtain ⟨c, label, rfl⟩ := List.exists_cons_of_ne_nil hne
    simp

/-- R312: a pattern that begins with a wildcard. -/
theorem hostnameMatches_wildcard {host pattern rest : Bytes} (h : lowerBytes pattern = 0x2a#8 :: 0x2e#8 :: rest) :
    hostnameMatches host pattern = true ↔
      ∃ label, label ≠ [] ∧ 0x2e#8 ∉ label ∧ lowerBytes host = label ++ 0x2e#8 :: rest := by
  rw [← afterFirstLabel_eq_some_iff, hostnameMatches, h]
  simp

/-- R312: any other pattern. -/
theorem hostnameMatches_literal {host pattern : Bytes} (h : ∀ rest, lowerBytes pattern ≠ 0x2a#8 :: 0x2e#8 :: rest) :
    hostnameMatches host pattern = true ↔ lowerBytes host = lowerBytes pattern := by
  rw [hostnameMatches]
  split
  · rename_i c0 c1 rest heq
    rw [if_neg, heq, beq_iff_eq]
    intro hwild
    rw [Bool.and_eq_true, beq_iff_eq, beq_iff_eq] at hwild
    exact h rest (by rw [heq, hwild.1, hwild.2])
  · exact beq_iff_eq

/-- R314: the last Common Name has none after it. -/
theorem lastCommonName_eq_some_iff (subject : List NameAttr) (cn : Bytes) :
    lastCommonName subject = some cn ↔
      ∃ before after, subject = before ++ [⟨oidCommonName, cn⟩] ++ after ∧ ∀ a ∈ after, a.oid ≠ oidCommonName := by
  simp only [lastCommonName, List.getLast?_filter, Option.map_eq_some_iff, List.find?_eq_some_iff_append, beq_iff_eq]
  constructor
  · rintro ⟨⟨oid, value⟩, ⟨rfl, as, bs, hsplit, has⟩, rfl⟩
    refine ⟨bs.reverse, as.reverse, ?_, fun a ha => ?_⟩
    · rw [← List.reverse_reverse subject, hsplit]
      simp
    · simpa using has a (List.mem_reverse.mp ha)
  · rintro ⟨before, after, rfl, hafter⟩
    refine ⟨⟨oidCommonName, cn⟩, ⟨rfl, after.reverse, before.reverse, by simp, fun a ha => ?_⟩, rfl⟩
    simpa using hafter a (List.mem_reverse.mp ha)

/-- R314: without a subjectAltName the last Common Name decides. -/
theorem certHostname_of_absent {r : CertRecord} (host : Bytes) (h : san r = .absent) :
    certHostname r host = true ↔ ∃ cn, lastCommonName r.subject = some cn ∧ hostnameMatches host cn = true := by
  rw [certHostname, h]
  cases lastCommonName r.subject <;> simp

/-! Chains (R317). -/

section
variable {s : State} {n i : Nat} {time : Bytes} {r : CertRecord}

theorem chainPosition_missing (hcert : s.cert i = none) :
    chainPosition s n (timeOperand time) i = some .missingCert := by
  simp only [chainPosition, hcert]

theorem chainPosition_outside (hcert : s.cert i = some r) (h : ¬validAt r (nowOf time)) :
    chainPosition s n (timeOperand time) i = some .outsideValidity := by
  have hcheck : checkValidity r (timeOperand time) = false := Bool.eq_false_iff.mpr (mt (checkValidity_iff r time).mp h)
  simp [chainPosition, hcert, hcheck]

theorem chainPosition_end (hcert : s.cert i = some r) (h : validAt r (nowOf time)) (hend : ¬(0 < i ∧ i + 1 < n)) :
    chainPosition s n (timeOperand time) i = none := by
  simp [chainPosition, hcert, (checkValidity_iff r time).mpr h, hend]

theorem chainPosition_ca (hcert : s.cert i = some r) (h : validAt r (nowOf time)) (hca : markedCa r) :
    chainPosition s n (timeOperand time) i = none := by
  obtain ⟨b, hb, hca⟩ := hca
  simp [chainPosition, hcert, (checkValidity_iff r time).mpr h, hb, hca]

theorem chainPosition_notCa (hcert : s.cert i = some r) (h : validAt r (nowOf time)) (hbetween : 0 < i ∧ i + 1 < n)
    (hca : ¬markedCa r) : chainPosition s n (timeOperand time) i = some .notCa := by
  simp only [chainPosition, hcert, (checkValidity_iff r time).mpr h, if_pos hbetween]
  cases hb : basicConstraints r with
  | absent => rfl
  | malformed => rfl
  | present b => simp [show b.isCA = false from Bool.eq_false_iff.mpr fun hb' => hca ⟨b, hb, hb'⟩]

/-- R317: a position with nothing against it passes. -/
theorem chainPosition_of_good (h : positionGood s n (nowOf time) i) :
    chainPosition s n (timeOperand time) i = none := by
  obtain ⟨r, hcert, hvalid, hca⟩ := h
  by_cases hbetween : 0 < i ∧ i + 1 < n
  · exact chainPosition_ca hcert hvalid (hca hbetween.1 hbetween.2)
  · exact chainPosition_end hcert hvalid hbetween

/-- R317: of any other position the first test that fails is reported. -/
theorem chainPosition_of_not_good (h : ¬positionGood s n (nowOf time) i) :
    ∃ reason, positionReason s n (nowOf time) i reason ∧ chainPosition s n (timeOperand time) i = some reason := by
  cases hcert : s.cert i with
  | none => exact ⟨.missingCert, hcert, chainPosition_missing hcert⟩
  | some r =>
    by_cases hvalid : validAt r (nowOf time)
    · obtain ⟨h0, hn, hca⟩ : 0 < i ∧ i + 1 < n ∧ ¬markedCa r := by
        by_contra hgood
        push Not at hgood
        exact h ⟨r, hcert, hvalid, hgood⟩
      exact ⟨.notCa, ⟨r, hcert, hvalid, h0, hn, hca⟩, chainPosition_notCa hcert hvalid ⟨h0, hn⟩ hca⟩
    · exact ⟨.outsideValidity, ⟨r, hcert, hvalid⟩, chainPosition_outside hcert hvalid⟩

end

/-- R317: the first failing position. -/
theorem firstChainFailure_eq (s : State) (n : Nat) (now : Word64) (is : List Nat) :
    firstChainFailure s n now is = is.findSome? fun i => (chainPosition s n now i).map (·, i) := by
  induction is with
  | nil => rfl
  | cons i is ih =>
    rw [firstChainFailure, List.findSome?_cons, ih]
    cases chainPosition s n now i <;> rfl

theorem validateChain_tooLong (s : State) {n : Nat} (now : Word64) (h : 10 < n) :
    validateChain s n now = some (.chainTooLong, 0) := if_pos h

theorem validateChain_empty (s : State) (now : Word64) : validateChain s 0 now = some (.emptyChain, 0) := rfl

theorem validateChain_eq (s : State) {n : Nat} (now : Word64) (hpos : 1 ≤ n) (hmax : n ≤ 10) :
    validateChain s n now = (List.range n).findSome? fun i => (chainPosition s n now i).map (·, i) := by
  rw [validateChain, Config.chainMax, if_neg (Nat.not_lt.mpr hmax), if_neg (by omega), firstChainFailure_eq]

/-- R317: a chain of good positions passes. -/
theorem validateChain_of_good {s : State} {n : Nat} {time : Bytes} (hpos : 1 ≤ n) (hmax : n ≤ 10)
    (h : ∀ i, i < n → positionGood s n (nowOf time) i) : validateChain s n (timeOperand time) = none := by
  rw [validateChain_eq s _ hpos hmax, List.findSome?_eq_none_iff]
  intro i hi
  rw [chainPosition_of_good (h i (List.mem_range.mp hi)), Option.map_none]

/-- The numbers below `n`, split at one of them. -/
theorem exists_range_eq_append {n i : Nat} (h : i < n) : ∃ rest, List.range n = List.range i ++ i :: rest := by
  obtain ⟨m, rfl⟩ := Nat.exists_eq_add_of_lt h
  rw [Nat.add_assoc, List.range_add, List.range_succ_eq_map]
  exact ⟨_, rfl⟩

/-- R317: the first position that is not good is reported. -/
theorem validateChain_of_first {s : State} {n i : Nat} {time : Bytes} {reason : Reason} (hmax : n ≤ 10) (hi : i < n)
    (hfail : chainPosition s n (timeOperand time) i = some reason)
    (h : ∀ j, j < i → positionGood s n (nowOf time) j) : validateChain s n (timeOperand time) = some (reason, i) := by
  obtain ⟨rest, hrange⟩ := exists_range_eq_append hi
  rw [validateChain_eq s _ (by omega) hmax, List.findSome?_eq_some_iff]
  refine ⟨_, i, rest, hrange, by rw [hfail, Option.map_some], fun j hj => ?_⟩
  rw [chainPosition_of_good (h j (List.mem_range.mp hj)), Option.map_none]

/-! The trust store (R320). -/

/-- R320: a fingerprint in the store is not added again. -/
theorem exec_tsAdd_of_mem {s : State} {rs1 : Slot} (h : fingerprint (s.slot rs1) ∈ s.ts) :
    exec (.tsAdd rs1) s = .next (s.succeed [] (countWord s.ts.length)) := by
  rw [exec_tsAdd, execTsAdd, State.run_of_none _ _ _ _ firstFailure_nil, if_pos h]

/-- R320: a full store takes no new fingerprint. -/
theorem exec_tsAdd_of_full {s : State} {rs1 : Slot} (h : fingerprint (s.slot rs1) ∉ s.ts)
    (hfull : Config.tsCap ≤ s.ts.length) :
    exec (.tsAdd rs1) s = .next (s.raise [] (.tsFull (countWord s.ts.length))) := by
  rw [exec_tsAdd, execTsAdd, State.run_of_none _ _ _ _ firstFailure_nil, if_neg h, storeFull_eq, decide_eq_true hfull,
    if_pos rfl]

/-- R320: a new fingerprint is added while there is room. -/
theorem exec_tsAdd_of_room {s : State} {rs1 : Slot} (h : fingerprint (s.slot rs1) ∉ s.ts)
    (hroom : s.ts.length < Config.tsCap) :
    exec (.tsAdd rs1) s =
      .next (State.succeed { s with ts := insertFingerprint (fingerprint (s.slot rs1)) s.ts } []
        (countWord (s.ts.length + 1))) := by
  rw [exec_tsAdd, execTsAdd, State.run_of_none _ _ _ _ firstFailure_nil, if_neg h, storeFull_eq,
    decide_eq_false (Nat.not_le.mpr hroom), if_neg Bool.false_ne_true]

/-- R320: after TS_ADD with OK the fingerprint is in the store, and the slots are what they were. -/
theorem mem_ts_of_tsAdd {s t : State} {rs1 : Slot} (h : exec (.tsAdd rs1) s = .next t) (hok : t.result = .ok) :
    fingerprint (s.slot rs1) ∈ t.ts ∧ ∀ j, t.slot j = s.slot j := by
  by_cases hmem : fingerprint (s.slot rs1) ∈ s.ts
  · rw [exec_tsAdd_of_mem hmem] at h
    cases h
    exact ⟨by rwa [State.succeed_ts], fun _ => rfl⟩
  by_cases hfull : Config.tsCap ≤ s.ts.length
  · rw [exec_tsAdd_of_full hmem hfull] at h
    cases h
    cases hok
  · rw [exec_tsAdd_of_room hmem (Nat.lt_of_not_le hfull)] at h
    cases h
    exact ⟨(mem_insertFingerprint _ _ _).mpr (.inl rfl), fun _ => rfl⟩

/-- R321: TS_QUERY of a valid entry. -/
theorem exec_tsQuery_of_cert {s : State} {imm : Word32} {r : CertRecord} (hidx : imm.toNat < 16)
    (hcert : s.cert imm.toNat = some r) :
    exec (.tsQuery imm) s = .next (s.succeed [] (if fingerprint r.rawBytes ∈ s.ts then 1 else 0)) := by
  rw [exec_tsQuery, execTsQuery, run_withCert s [] _ (by simp [hidx]) hcert, boolWord_eq]
  simp only [decide_eq_true_eq]

/-- R300: after CERT_PARSE with OK the entry holds a record of the bytes, and the trust store is what it was. -/
theorem cert_of_certParse {s t : State} {rs1 : Slot} {imm : Word32} (h : exec (.certParse rs1 imm) s = .next t)
    (hok : t.result = .ok) :
    imm.toNat < 16 ∧ t.ts = s.ts ∧ ∃ r, t.cert imm.toNat = some r ∧ r.rawBytes = s.slot rs1 := by
  by_cases hidx : imm.toNat < 16
  · cases hr : parseCertificate (s.slot rs1) with
    | none =>
      rw [exec_certParse_of_none hidx hr] at h
      cases h
      cases hok
    | some r =>
      rw [exec_certParse_of_some hidx hr] at h
      cases h
      exact ⟨hidx, by simp, r, by simp [State.cert_setCert, hidx], parseCertificate_rawBytes hr⟩
  · rw [exec_certParse, execCertParse, State.run_of_some _ _ _ _ .badIndex (by simp [Nat.le_of_not_lt hidx])] at h
    cases h
    cases hok

/-! OCSP lists (R322, R323). -/

theorem ocspListIs_nil_iff (records : List OcspRecord) : ocspListIs [] records ↔ records = [] := by
  cases records with
  | nil => simp [ocspListIs]
  | cons m ms =>
    refine iff_of_false (fun hlist => ?_) (List.cons_ne_nil m ms)
    have hlen := congrArg List.length hlist.2
    rw [List.flatMap_cons, List.length_append, length_ocspOctets, List.length_nil] at hlen
    omega

/-- R322: bytes that are not empty hold a record and a list. -/
theorem ocspListIs_iff {b : Bytes} (hb : b ≠ []) (records : List OcspRecord) :
    ocspListIs b records ↔
      ∃ m ms rest, records = m :: ms ∧ (ocspWellFormed m ∧ b = ocspOctets m ++ rest) ∧ ocspListIs rest ms := by
  constructor
  · rintro ⟨hwf, rfl⟩
    cases records with
    | nil => exact absurd rfl hb
    | cons m ms =>
      obtain ⟨hm, hms⟩ := List.forall_mem_cons.mp hwf
      exact ⟨m, ms, _, rfl, ⟨hm, List.flatMap_cons⟩, hms, rfl⟩
  · rintro ⟨m, ms, _, rfl, ⟨hm, rfl⟩, hms, rfl⟩
    exact ⟨List.forall_mem_cons.mpr ⟨hm, hms⟩, List.flatMap_cons.symm⟩

/-- R322: the reader takes one record and reads what follows it. -/
theorem ocspRecords_succ_eq_some_iff {b : Bytes} (hb : b ≠ []) (fuel : Nat) (records : List OcspRecord) :
    ocspRecords (fuel + 1) b = some records ↔
      ∃ m ms rest, records = m :: ms ∧ ocspRecord b = some (m, rest) ∧ ocspRecords fuel rest = some ms := by
  obtain ⟨x, xs, rfl⟩ := List.exists_cons_of_ne_nil hb
  rw [ocspRecords]
  constructor
  · intro h
    split at h
    · cases h
    · rename_i m rest hrecord
      obtain ⟨ms, hms, rfl⟩ := Option.map_eq_some_iff.mp h
      exact ⟨m, ms, rest, rfl, hrecord, hms⟩
  · rintro ⟨m, ms, rest, rfl, hrecord, hms⟩
    simp only [hrecord, hms, Option.map_some]

/-- R322: a list is read exactly as the records whose octets it is; a bound of the recursion above the number of bytes
never stops the reader (log 13). -/
theorem ocspRecords_eq_some_iff (fuel : Nat) (b : Bytes) (h : b.length < fuel) (records : List OcspRecord) :
    ocspRecords fuel b = some records ↔ ocspListIs b records := by
  induction fuel generalizing b records with
  | zero => exact absurd h (Nat.not_lt_zero _)
  | succ fuel ih =>
    by_cases hb : b = []
    · subst hb
      rw [ocspListIs_nil_iff, ocspRecords, Option.some.injEq, eq_comm]
    · rw [ocspRecords_succ_eq_some_iff hb, ocspListIs_iff hb]
      simp only [ocspRecord_eq_some_iff]
      refine exists₃_congr fun m ms rest => and_congr_right fun _ => and_congr_right fun ⟨_, hbytes⟩ => ih rest ?_ ms
      have hlen := congrArg List.length hbytes
      rw [List.length_append, length_ocspOctets] at hlen
      omega

/-- R323: the first record with a serial number. -/
theorem find_serial_of_first {records before after : List OcspRecord} {m : OcspRecord} {serial : Bytes}
    (h : records = before ++ m :: after) (hbefore : ∀ m' ∈ before, m'.serial ≠ serial) (hm : m.serial = serial) :
    records.find? (fun m => m.serial == serial) = some m :=
  List.find?_eq_some_iff_append.mpr ⟨beq_iff_eq.mpr hm, before, after, h, by simpa using hbefore⟩

theorem find_serial_of_absent {records : List OcspRecord} {serial : Bytes} (h : ∀ m ∈ records, m.serial ≠ serial) :
    records.find? (fun m => m.serial == serial) = none :=
  List.find?_eq_none.mpr (by simpa using h)

/-- R323: the record is out of date at the time. -/
theorem ocspExpired_iff (m : OcspRecord) (time : Bytes) :
    (m.hasNext && !timeLe (timeOperand time) m.nextUpdate) = true ↔
      m.hasNext = true ∧ m.nextUpdate.toInt < nowOf time := by
  rw [Bool.and_eq_true, Bool.not_eq_true', ← Bool.not_eq_true, timeLe_iff, toInt_timeOperand, Int.not_le]

end Sys2Proof.Machine
end

section
/-! The statements about certificates (46_certificate.md). -/

namespace Sys2Proof.Machine

open Sys2Proof

/-- Settles O50: the checks of each command, in their order. -/
theorem certificateIndex : Obligations.CertificateIndex := by
  intro s rd rs1 rs2 imm
  refine ⟨fun hbad => ⟨fun i hi => ?_, ?_⟩, fun hidx hcert => ⟨fun i hi => ?_, ?_, fun i hi htime => ?_⟩,
    fun hidx htime i hi => ?_⟩
  · obtain ⟨more, body, hrun⟩ := exec_checks_index s rs1 rs2 imm i hi
    rw [hrun]
    exact failsWith_run s body (by simp [hbad]) rfl
  · rw [exec_certSan, execCertSan]
    exact failsWith_run s _ (by simp [hbad]) rfl
  · obtain ⟨body, hrun⟩ := exec_reads_cert s rs1 imm i hi
    rw [hrun]
    exact failsWith_run_noCert s [] body (by simp [hidx]) hcert
  · rw [exec_certSan, execCertSan]
    exact failsWith_run_noCert s [rd] _ (by simp [hidx]) hcert
  · obtain ⟨body, hrun⟩ := exec_checks_time s rs1 rs2 imm i hi
    rw [hrun]
    exact failsWith_run_noCert s [] body (by simp [hidx, htime]) hcert
  · obtain ⟨body, hrun⟩ := exec_checks_time s rs1 rs2 imm i hi
    rw [hrun]
    exact failsWith_run s _ (by simp [hidx, htime]) rfl

/-- Settles O55: `timeLe` is the signed order. -/
theorem certValidityCommand : Obligations.CertValidityCommand := by
  intro s rs1 imm r hidx hcert htime
  rw [exec_certValidity, execCertValidity, run_withCert s [] _ (by simp [hidx, htime]) hcert, boolWord_eq]
  refine ⟨fun hvalid => ?_, fun hinvalid => ?_⟩
  · rw [if_pos ((checkValidity_iff r _).mpr hvalid)]
    exact completesOk_nothing s 1
  · rw [if_neg (mt (checkValidity_iff r _).mp hinvalid)]
    exact completesOk_nothing s 0

/-- Settles O51: a record keeps the bytes it was parsed from, and one entry is replaced whole. -/
theorem certParseCommand : Obligations.CertParseCommand := by
  intro s rs1 imm
  refine ⟨fun hbad => ?_, fun r hidx hr => ⟨parseCertificate_rawBytes hr, ?_⟩, fun hidx hr => ?_⟩
  · rw [exec_certParse, execCertParse]
    exact failsWith_run s _ (by simp [hbad]) rfl
  · refine ⟨_, exec_certParse_of_some hidx hr, (State.ended_succeed _ _ _).of_tables, fun _ => rfl, fun k => ?_, by simp⟩
    simp [State.cert_setCert, hidx]
  · refine ⟨_, exec_certParse_of_none hidx hr, (State.ended_raise _ _ _).of_tables, fun _ => rfl, fun k => ?_, by simp⟩
    simp [State.cert_setCert, hidx]

/-- Settles O52: the field's count is below 2^32 whenever the field fits a slot. -/
theorem certFieldCommand : Obligations.CertFieldCommand := by
  intro s rd imm fid idx
  refine ⟨fun hbad => ?_, fun himm hfid => ⟨fun hidx => ?_, fun hidx hcert => ?_, fun r hidx hcert => ?_⟩⟩
  · have hcheck := mt (fieldImm_iff imm).mp (by omega)
    rw [exec_certField, execCertField]
    exact failsWith_run s _ (by simp only [checkImm, if_neg hcheck, firstFailure_some]) rfl
  · rw [exec_certField, execCertField, (fieldImm_iff imm).mpr ⟨himm, hfid⟩, toNat_idx himm]
    exact failsWith_run s _ (by simp [show 16 ≤ imm.toNat / 256 from hidx]) rfl
  · rw [exec_certField, execCertField, (fieldImm_iff imm).mpr ⟨himm, hfid⟩, toNat_idx himm]
    exact failsWith_run_noCert s [rd] _ (by simp [show imm.toNat / 256 < 16 from hidx]) hcert
  have hends {out : Bytes} {v : Word32} {n : Nat} (hfield : certField r fid = some (out, v))
      (hv : out.length ≤ Config.slotMax → v = BitVec.ofNat 32 n) :
      (out.length ≤ Config.slotMax → CompletesOk (exec (.certField rd imm) s) s (written s rd out) (BitVec.ofNat 32 n)) ∧
        (Config.slotMax < out.length → FailsWith (exec (.certField rd imm) s) s [rd] .overflow) := by
    rw [exec_certField_of_field rd ⟨himm, hfid⟩ hidx hcert hfield]
    exact ⟨fun hfits => hv hfits ▸ completesOk_deliver s rd v hfits, failsWith_deliver s rd v⟩
  have hcount {out : Bytes} {n : Nat} (hle : n ≤ out.length) (hfits : out.length ≤ Config.slotMax) :
      countWord n = BitVec.ofNat 32 n := countWord_of_le n (hle.trans hfits)
  have hversion : r.version = BitVec.ofNat 32 r.version.toNat := by rw [BitVec.ofNat_toNat, BitVec.setWidth_eq]
  clear_value fid
  interval_cases fid
  · exact hends rfl fun _ => hversion
  · exact hends rfl fun _ => rfl
  · exact hends rfl (hcount (length_le_length_pairsBytes r.issuer))
  · exact hends rfl (hcount (length_le_length_pairsBytes r.subject))
  iterate 4 exact hends rfl fun _ => rfl
  · exact hends rfl (hcount (length_le_length_extensionsBytes r.extensions))
  all_goals exact hends rfl fun _ => rfl

/-- Settles O53: the words that report a present extension are sums, and a list of names that fits a slot is short. -/
theorem extensionCommands : Obligations.ExtensionCommands := by
  intro s rd imm r hidx hcert
  rw [exec_certSan, execCertSan, exec_certBc, execCertBc, exec_certKu, execCertKu]
  have hcheck : firstFailure [checkIndex imm.toNat] = none := by simp [hidx]
  simp only [run_withCert s _ _ hcheck hcert]
  refine ⟨fun h => ?_, fun h => ?_, fun names h => ?_, fun h => ?_, fun h => ?_, fun b h => ?_, fun h => ?_, fun h => ?_,
    fun mask h => ?_⟩
  all_goals simp only [h]
  · exact completesOk_one s rd [] 0
  · exact failsWith_raise s [rd] .parseError rfl
  · split
    case isTrue hfits =>
      have hcount := mul_length_le_length_flatMap (fun n : Bytes => toBe n.length 4 ++ n) 4 (by simp) names
      have hmax := slotMax_bounds.2
      rw [sanWord_eq (by omega)]
      exact completesOk_deliver s rd _ hfits
    case isFalse hover => exact failsWith_deliver s rd _ (Nat.lt_of_not_le hover)
  · exact completesOk_nothing s 0
  · exact failsWith_raise s [] .parseError rfl
  · have hlen := pathLen_lt_of_present h
    rw [bcWord_eq hlen]
    exact ⟨hlen, completesOk_nothing s _⟩
  · exact completesOk_nothing s 0
  · exact failsWith_raise s [] .parseError rfl
  · rw [keyUsageWord_eq]
    exact completesOk_nothing s _

/-- Settles O60: each accessor is `viewExt` of a reader that reads exactly what its rule says. -/
theorem extensionViews : Obligations.ExtensionViews := by
  intro r
  rw [san_eq, basicConstraints_eq, keyUsage_eq]
  exact ⟨viewIs_viewExt r _ _ _ readSan_eq_some_iff, viewIs_viewExt r _ _ _ readBasicConstraints_eq_some_iff,
    viewIs_viewExt r _ _ _ readKeyUsage_eq_some_iff⟩

/-- Settles O54: the first label of a name is what stands before its first dot, and the last Common Name has none
after it. -/
theorem hostnameCommands : Obligations.HostnameCommands := by
  refine ⟨fun s rs1 rs2 imm => ⟨?_, fun r hidx hcert => ?_⟩, fun host pattern => ⟨fun rest h => ?_, fun h => ?_⟩⟩
  · rw [exec_hostnameMatch, execHostnameMatch, State.run_of_none _ _ _ _ firstFailure_nil, boolWord_eq]
    exact completesOk_nothing s _
  · refine ⟨certHostname r (s.slot rs1), ?_, fun h => ?_, fun names h => ?_, fun h => ?_⟩
    · rw [exec_certHostname, execCertHostname, run_withCert s [] _ (by simp [hidx]) hcert, boolWord_eq]
      exact completesOk_nothing s _
    · rw [certHostname, h]
    · rw [certHostname, h]
      exact List.any_eq_true
    · rw [certHostname_of_absent _ h]
      simp only [lastCommonName_eq_some_iff]
      constructor
      · rintro ⟨cn, ⟨before, after, hsplit, hafter⟩, hmatch⟩
        exact ⟨before, cn, after, hsplit, hafter, hmatch⟩
      · rintro ⟨before, cn, after, hsplit, hafter, hmatch⟩
        exact ⟨cn, ⟨before, after, hsplit, hafter⟩, hmatch⟩
  · exact hostnameMatches_wildcard h
  · exact hostnameMatches_literal h

/-- Settles O56: the first position that is not good is where the model's search stops. -/
theorem chainValidateCommand : Obligations.ChainValidateCommand := by
  intro s rs1 imm n now
  rw [exec_chainValidate, execChainValidate]
  refine ⟨fun htime => failsWith_run s _ (by simp [htime]) rfl, fun htime => ?_⟩
  rw [State.run_of_none _ _ _ _ (by simp [htime])]
  refine ⟨fun hlong => ?_, fun hempty => ?_, fun hpos hmax hgood => ?_, fun _ hmax i hi hbad hfirst => ?_⟩
  · rw [validateChain_tooLong s _ hlong]
    exact failsWith_raise s [] _ rfl
  · rw [show imm.toNat = 0 from hempty, validateChain_empty]
    exact failsWith_raise s [] _ rfl
  · rw [validateChain_of_good hpos hmax hgood]
    exact completesOk_nothing s 0
  · obtain ⟨reason, hreason, hfail⟩ := chainPosition_of_not_good hbad
    rw [validateChain_of_first hmax hi hfail hfirst]
    exact ⟨reason, hreason, failsWith_raise s [] _ rfl⟩

/-- Settles O57: the three ways TS_ADD ends. -/
theorem trustStoreCommands : Obligations.TrustStoreCommands := by
  intro s rs1 f
  refine ⟨fun hmem hcount => ?_, fun hnew hfull => ?_, fun hnew hwf hroom hcount => ?_, fun imm r hidx hcert => ?_⟩
  · rw [exec_tsAdd_of_mem hmem, countWord_of_lt _ hcount]
    exact completesOk_nothing s _
  · rw [exec_tsAdd_of_full hnew hfull.ge, hfull]
    refine ⟨_, failsWith_raise s [] _ rfl, fun hcap => ?_⟩
    rw [countWord_of_lt _ hcap, BitVec.toNat_ofNat, Nat.mod_eq_of_lt hcap]
  · rw [exec_tsAdd_of_room hnew hroom, countWord_of_lt _ hcount]
    exact ⟨_, ⟨_, rfl, (State.ended_succeed _ _ _).of_tables, fun _ => rfl, rfl, rfl⟩,
      fun g => mem_insertFingerprint _ g s.ts, tsWf_insertFingerprint (length_shaHash .sha256 _) hwf,
      length_insertFingerprint _ _ hnew⟩
  · rw [exec_tsQuery_of_cert hidx hcert]
    exact completesOk_nothing s _

/-- Settles O58: both commands read the same slot, which TS_ADD does not write, and CERT_PARSE keeps the store. -/
theorem addedRootIsTrusted : Obligations.AddedRootIsTrusted := by
  intro s s1 s2 rs1 imm hadd hadd_ok hparse hparse_ok
  obtain ⟨hmem, hslots⟩ := mem_ts_of_tsAdd hadd hadd_ok
  obtain ⟨hidx, hts, r, hcert, hraw⟩ := cert_of_certParse hparse hparse_ok
  rw [exec_tsQuery_of_cert hidx hcert, hraw, hslots, hts, if_pos hmem]
  exact completesOk_nothing s2 1

/-- Settles O59: the reader is exact on the octets of well-formed records, and the search for the serial number stops
at the first of them. -/
theorem ocspCheckCommand : Obligations.OcspCheckCommand := by
  intro s rs1 rs2 imm r hidx hcert htime
  rw [exec_ocspCheck, execOcspCheck, run_withCert s [] _ (by simp [hidx, htime]) hcert]
  have hread := ocspRecords_eq_some_iff _ (s.slot rs2) (Nat.lt_succ_self _)
  refine ⟨fun hnone => ?_, fun records hlist => ?_⟩
  · have hreject : ocspRecords ((s.slot rs2).length + 1) (s.slot rs2) = none :=
      Option.eq_none_iff_forall_ne_some.mpr fun records => mt (hread records).mp (hnone records)
    simp only [hreject]
    exact failsWith_raise s [] _ rfl
  simp only [(hread records).mpr hlist]
  refine ⟨fun habsent => ?_, fun before m after hsplit hbefore hm => ?_⟩
  · simp only [find_serial_of_absent habsent]
    exact completesOk_nothing s 0
  · simp only [find_serial_of_first hsplit hbefore hm, ocspExpired_iff]
    refine ⟨fun hrevoked => ?_, fun hstatus hnext hexpired => ?_, fun hstatus hcurrent => ?_⟩
    · rw [if_pos hrevoked]
      exact failsWith_raise s [] _ rfl
    · rw [if_neg hstatus, if_pos ⟨hnext, hexpired⟩]
      exact failsWith_raise s [] _ rfl
    · rw [if_neg hstatus, if_neg hcurrent]
      exact completesOk_nothing s 1

end Sys2Proof.Machine
end

section
/-! SUPPORT. The system commands (47_system.md R350 to R354), one rule for each way one of them ends. -/

namespace Sys2Proof.Machine

open Sys2Proof

section
variable (s : State) (rd rs1 rs2 : Slot)

theorem exec_nop : exec .nop s = execNop s := rfl

theorem exec_slotClear : exec (.slotClear rd) s = execSlotClear rd s := rfl

theorem exec_slotCopy : exec (.slotCopy rd rs1) s = execSlotCopy rd rs1 s := rfl

theorem exec_slotConcat : exec (.slotConcat rd rs1 rs2) s = execSlotConcat rd rs1 rs2 s := rfl

theorem exec_ctCmp : exec (.ctCmp rs1 rs2) s = execCtCmp rs1 rs2 s := rfl

/-- A command without checks that writes no slot. -/
theorem completesOk_run_nothing (v : Word32) : CompletesOk (s.run [] [] fun _ => s.succeed [] v) s s.slot v := by
  rw [State.run_of_none _ _ _ _ firstFailure_nil]
  exact completesOk_nothing s v

/-- R350. -/
theorem nop_completes : CompletesOk (exec .nop s) s s.slot 0 := by
  rw [exec_nop, execNop]
  exact completesOk_run_nothing s 0

/-- R351. -/
theorem slotClear_completes : CompletesOk (exec (.slotClear rd) s) s (written s rd []) 0 := by
  rw [exec_slotClear, execSlotClear]
  exact completesOk_run_one s [rd] [] rd [] 0 firstFailure_nil

/-- R352: RETVAL holds the length, since a slot's length is a 32-bit number. -/
theorem slotCopy_completes (h : (s.slot rs1).length ≤ Config.slotMax) :
    CompletesOk (exec (.slotCopy rd rs1) s) s (written s rd (s.slot rs1)) (BitVec.ofNat 32 (s.slot rs1).length) := by
  rw [exec_slotCopy, execSlotCopy, countWord_of_le _ h]
  exact completesOk_run_one s [rd] [] rd _ _ firstFailure_nil

/-- R353: a concatenation that fits a slot. -/
theorem slotConcat_completes (h : (s.slot rs1).length + (s.slot rs2).length ≤ Config.slotMax) :
    CompletesOk (exec (.slotConcat rd rs1 rs2) s) s (written s rd (s.slot rs1 ++ s.slot rs2))
      (BitVec.ofNat 32 ((s.slot rs1).length + (s.slot rs2).length)) := by
  have hcheck : firstFailure [checkFits ((s.slot rs1).length + (s.slot rs2).length)] = none := by
    rw [(checkFits_eq_none_iff _).mpr h, firstFailure_none, firstFailure_nil]
  rw [exec_slotConcat, execSlotConcat, countWord_of_le _ h]
  exact completesOk_run_one s [rd] _ rd _ _ hcheck

/-- R353: a concatenation that does not. -/
theorem slotConcat_overflows (h : Config.slotMax < (s.slot rs1).length + (s.slot rs2).length) :
    FailsWith (exec (.slotConcat rd rs1 rs2) s) s [rd] .overflow := by
  have hcheck : firstFailure [checkFits ((s.slot rs1).length + (s.slot rs2).length)] = some .overflow := by
    rw [checkFits_eq, if_pos h, firstFailure_some]
  rw [exec_slotConcat, execSlotConcat]
  exact failsWith_run s _ hcheck rfl

/-- R354: the comparison of every byte decides equality. -/
theorem ctCmp_completes :
    CompletesOk (exec (.ctCmp rs1 rs2) s) s s.slot (if s.slot rs1 = s.slot rs2 then 1 else 0) := by
  rw [exec_ctCmp, execCtCmp, boolWord_eq]
  simp only [ctEqual_iff]
  exact completesOk_run_nothing s _

end

end Sys2Proof.Machine
end

section
/-! The statement about the system commands (47_system.md). -/

namespace Sys2Proof.Machine

open Sys2Proof

/-- Settles O21, command by command. -/
theorem systemCommands : Obligations.SystemCommands := fun s rd rs1 rs2 =>
  ⟨nop_completes s, slotClear_completes s rd, slotCopy_completes s rd rs1, slotConcat_completes s rd rs1 rs2,
    slotConcat_overflows s rd rs1 rs2, ctCmp_completes s rs1 rs2⟩

end Sys2Proof.Machine
end

section
/-! SUPPORT. What a command that fails leaves behind (60_exceptions.md R375, R376), and what a command that ends with OK
can have written (R377): the endings of `exec_eq_apply`, told apart by their result. -/

namespace Sys2Proof.Machine

open Sys2Proof

/-- R376 (a), in terms of the result code. -/
theorem Failure.clearsDests_iff (f : Failure) :
    f.clearsDests = true ↔ f.result ≠ .illegalCmd ∧ f.result ≠ .operandAlias := by
  cases f <;> simp [Failure.clearsDests, Failure.result]

/-- R376: a command that fails raises one failure, in the state it began in or, for a CERT_PARSE of bytes that are no
certificate, in that state with its entry made invalid. -/
theorem exec_fails_cases {i : Instr} {s t : State} (h : exec i s = .next t) (hfail : t.result ≠ .ok) :
    ∃ u f, t = u.raise (destSlots i) f ∧ f.operandOk = true ∧
      (u = s ∨ ∃ rs1 imm, i = .certParse rs1 imm ∧ f = .parseError ∧ u = s.setCert imm.toNat none) := by
  obtain ⟨e, hallowed, he⟩ := exec_eq_apply i s
  obtain rfl : e.apply (destSlots i) s = t := by simpa using he.symm.trans h
  cases e with
  | fails f => exact ⟨s, f, rfl, hallowed.2, .inl rfl⟩
  | succeeds ws v => exact absurd rfl hfail
  | parses idx record =>
    obtain ⟨rs1, imm, rfl, rfl, -⟩ := hallowed
    cases record with
    | none => exact ⟨_, .parseError, rfl, rfl, .inr ⟨rs1, imm, rfl, rfl, rfl⟩⟩
    | some r => exact absurd rfl hfail
  | trusts f => exact absurd rfl hfail

/-- R377: a command that ends with OK writes some of its destinations, in the state it began in or, for CERT_PARSE and
TS_ADD, in that state with another entry or another trust store. -/
theorem exec_succeeds_cases {i : Instr} {s t : State} (h : exec i s = .next t) (hok : t.result = .ok) :
    ∃ u ws v, t = u.succeed ws v ∧ (∀ w ∈ ws, w.1 ∈ destSlots i) ∧
      (u = s ∨ (∃ rs1 imm record, i = .certParse rs1 imm ∧ u = s.setCert imm.toNat record) ∨
        ∃ rs1 ts, i = .tsAdd rs1 ∧ u = { s with ts := ts }) := by
  obtain ⟨e, hallowed, he⟩ := exec_eq_apply i s
  obtain rfl : e.apply (destSlots i) s = t := by simpa using he.symm.trans h
  cases e with
  | fails f => cases f <;> cases hok
  | succeeds ws v => exact ⟨s, ws, v, rfl, fun w hw => (hallowed w hw).1, .inl rfl⟩
  | parses idx record =>
    obtain ⟨rs1, imm, rfl, rfl, -⟩ := hallowed
    cases record with
    | none => cases hok
    | some r => exact ⟨_, [], r.version, rfl, List.forall_mem_nil _, .inr (.inl ⟨rs1, imm, _, rfl, rfl⟩)⟩
  | trusts f =>
    obtain ⟨rs1, rfl, -⟩ := hallowed
    exact ⟨_, [], _, rfl, List.forall_mem_nil _, .inr (.inr ⟨rs1, _, rfl, rfl⟩)⟩

/-- R300: after CERT_PARSE with PARSE_ERROR the entry is invalid. -/
theorem cert_eq_none_of_certParse {s t : State} {rs1 : Slot} {imm : Word32} (h : exec (.certParse rs1 imm) s = .next t)
    (hparse : t.result = .parseError) : t.cert imm.toNat = none := by
  by_cases hidx : imm.toNat < 16
  · cases hr : parseCertificate (s.slot rs1) with
    | none =>
      rw [exec_certParse_of_none hidx hr] at h
      cases h
      simp [State.cert_setCert, hidx]
    | some r =>
      rw [exec_certParse_of_some hidx hr] at h
      cases h
      cases hparse
  · rw [exec_certParse, execCertParse, State.run_of_some _ _ _ _ .badIndex (by simp [Nat.le_of_not_lt hidx])] at h
    cases h
    cases hparse

end Sys2Proof.Machine
end

section
/-! SUPPORT. What the checks of a command depend on (60_exceptions.md R380 steps 2 to 5): the lengths of the slots and
which entries of the certificate table are valid. A command's checks agree on two states alike in these, and what its
body does once they pass ends with none of their codes, but for the NO_CERT of an invalid entry. -/

namespace Sys2Proof.Machine

open Sys2Proof

/-- The two states have slots of the same lengths and the same valid entries. -/
structure SameShape (s s' : State) : Prop where
  length_eq : ∀ j, (s.slot j).length = (s'.slot j).length
  isSome_eq : ∀ k, (s.cert k).isSome = (s'.cert k).isSome

section
variable {s s' : State} (h : SameShape s s')
include h

theorem SameShape.checkLength_eq (k : Nat) (j : Slot) (n : Nat) :
    checkLength k (s.slot j) n = checkLength k (s'.slot j) n := by
  rw [checkLength, checkLength, h.length_eq]

theorem SameShape.checkMaxLength_eq (k : Nat) (j : Slot) (n : Nat) :
    checkMaxLength k (s.slot j) n = checkMaxLength k (s'.slot j) n := by
  rw [checkMaxLength, checkMaxLength, h.length_eq]

end

/-- R380: the codes of steps 2 to 5. -/
def checkCodes : List ResultCode := [.operandAlias, .badImm, .badIndex, .badLength, .noCert]

/-- The command that left `t` ended with none of the codes of steps 2 to 5. -/
def PastChecks (t : State) : Prop := t.result ∉ checkCodes

theorem pastChecks_succeed (s : State) (ws : List (Slot × Bytes)) (v : Word32) : PastChecks (s.succeed ws v) := by
  simp [PastChecks, checkCodes]

/-- A failure of the steps 6 to 8. -/
theorem pastChecks_raise (s : State) (ds : List Slot) {f : Failure} (h : checkCodes.contains f.result = false) :
    PastChecks (s.raise ds f) := by
  simpa [PastChecks] using h

theorem pastChecks_deliver (s : State) (rd : Slot) (out : Bytes) (v : Word32) : PastChecks (s.deliver rd out v) := by
  rw [State.deliver_eq]
  split
  · exact pastChecks_raise s _ rfl
  · exact pastChecks_succeed s _ v

/-- The two ends record the same check, or both lie past the checks. -/
def AgreeOnChecks (t t' : State) : Prop :=
  (t.result = t'.result ∧ t.errinfo = t'.errinfo) ∨ (PastChecks t ∧ PastChecks t')

theorem AgreeOnChecks.of_mem {t t' : State} (h : AgreeOnChecks t t') {c : ResultCode} (hc : c ∈ checkCodes) :
    (t.result = c ↔ t'.result = c) ∧ (t.result = c → t.errinfo = t'.errinfo) := by
  obtain ⟨hres, herr⟩ | ⟨hpast, hpast'⟩ := h
  · exact ⟨by rw [hres], fun _ => herr⟩
  · have hne : t.result ≠ c := fun e => hpast (e ▸ hc)
    have hne' : t'.result ≠ c := fun e => hpast' (e ▸ hc)
    exact ⟨iff_of_false hne hne', fun e => absurd e hne⟩

/-- The command `o` ends alike, as far as the checks go, on any two states of the same shape. -/
def ChecksReadShape (o : State → Host.Outcome State Fault Refusal) : Prop :=
  ∀ s s' t t', SameShape s s' → o s = .next t → o s' = .next t' → AgreeOnChecks t t'

/-- A command that has none of the codes of the checks. -/
theorem checksReadShape_of_codes {i : Instr} (h : (failureCodes i).all (· ∉ checkCodes) = true) :
    ChecksReadShape (exec i) := by
  have hpast {s t : State} (ht : exec i s = .next t) : PastChecks t := by
    obtain ⟨e, hallowed, he⟩ := exec_eq_apply i s
    obtain rfl : e.apply (destSlots i) s = t := by simpa using he.symm.trans ht
    obtain hok | hcode := e.result_apply i s hallowed
    · simp [PastChecks, hok, checkCodes]
    · simpa [PastChecks] using List.all_eq_true.mp h _ hcode
  exact fun _ _ _ _ _ ht ht' => .inr ⟨hpast ht, hpast ht'⟩

section
variable {ds : List Slot} {cs : State → List (Option Failure)}

/-- R380: a command whose checks read the shape, when the ends of its body agree. -/
theorem checksReadShape_run_of_agree {body : State → State} (hcs : ∀ s s', SameShape s s' → cs s = cs s')
    (hbody : ∀ s s', SameShape s s' → firstFailure (cs s) = none → AgreeOnChecks (body s) (body s')) :
    ChecksReadShape fun s => s.run ds (cs s) fun _ => body s := by
  intro s s' t t' hs ht ht'
  obtain ⟨f, hf, rfl⟩ | ⟨hf, rfl⟩ := State.run_cases s t ds (cs s) (fun _ => body s) ht
  · obtain rfl : s'.raise ds f = t' := by
      simpa using (State.run_of_some s' ds _ (fun _ => body s') f (hcs s s' hs ▸ hf)).symm.trans ht'
    exact .inl ⟨rfl, rfl⟩
  · obtain rfl : body s' = t' := by
      simpa using (State.run_of_none s' ds _ (fun _ => body s') (hcs s s' hs ▸ hf)).symm.trans ht'
    exact hbody s s' hs hf

/-- A command whose body ends past the checks. -/
theorem checksReadShape_run {body : State → State} (hcs : ∀ s s', SameShape s s' → cs s = cs s')
    (hbody : ∀ s, PastChecks (body s)) : ChecksReadShape fun s => s.run ds (cs s) fun _ => body s :=
  checksReadShape_run_of_agree hcs fun s s' _ _ => .inr ⟨hbody s, hbody s'⟩

/-- A command that ends with OK once its checks pass. -/
theorem checksReadShape_run_succeed {ws : State → List (Slot × Bytes)} {v : State → Word32}
    (hcs : ∀ s s', SameShape s s' → cs s = cs s') :
    ChecksReadShape fun s => s.run ds (cs s) fun _ => s.succeed (ws s) (v s) :=
  checksReadShape_run hcs fun s => pastChecks_succeed s _ _

/-- R299, R380 step 5: a command that reads an entry of the certificate table. -/
theorem checksReadShape_run_withCert {idx : Nat} {body : State → CertRecord → State}
    (hcs : ∀ s s', SameShape s s' → cs s = cs s')
    (hbody : ∀ s r, firstFailure (cs s) = none → PastChecks (body s r)) :
    ChecksReadShape fun s => s.run ds (cs s) fun _ => s.withCert ds idx (body s) := by
  refine checksReadShape_run_of_agree hcs fun s s' hs hf => ?_
  have hvalid := hs.isSome_eq idx
  cases hr : s.cert idx with
  | none =>
    have hr' : s'.cert idx = none := by simpa [hr] using hvalid
    rw [State.withCert_none _ _ _ _ hr, State.withCert_none _ _ _ _ hr']
    exact .inl ⟨rfl, rfl⟩
  | some r =>
    obtain ⟨r', hr'⟩ : ∃ r', s'.cert idx = some r' :=
      Option.isSome_iff_exists.mp (by simpa [hr] using hvalid.symm)
    rw [State.withCert_some _ _ _ _ _ hr, State.withCert_some _ _ _ _ _ hr']
    exact .inr ⟨hbody s r hf, hbody s' r' (hcs s s' hs ▸ hf)⟩

end

/-! The commands whose body can fail, or that read an entry. -/

section
variable (rd rs1 rs2 rs3 rs4 rs5 : Slot) (imm : Word32)

theorem gcmDec_checksReadShape : ChecksReadShape (exec (.gcmDec rd rs1 rs2 rs3 rs4 rs5)) := by
  refine checksReadShape_run (fun s s' h => by simp only [h.checkLength_eq]) fun s => ?_
  cases gcmDecrypt (s.slot rs1) (s.slot rs2) (s.slot rs3) (s.slot rs4) (s.slot rs5) with
  | none => exact pastChecks_raise s _ rfl
  | some p => exact pastChecks_succeed s _ _

theorem ccpDec_checksReadShape : ChecksReadShape (exec (.ccpDec rd rs1 rs2 rs3 rs4 rs5)) := by
  refine checksReadShape_run (fun s s' h => by simp only [h.checkLength_eq]) fun s => ?_
  cases ccpDecrypt (s.slot rs1) (s.slot rs2) (s.slot rs3) (s.slot rs4) (s.slot rs5) with
  | none => exact pastChecks_raise s _ rfl
  | some p => exact pastChecks_succeed s _ _

theorem certParse_checksReadShape : ChecksReadShape (exec (.certParse rs1 imm)) := by
  refine checksReadShape_run (fun _ _ _ => rfl) fun s => ?_
  cases parseCertificate (s.slot rs1) with
  | none => exact pastChecks_raise _ [] rfl
  | some r => exact pastChecks_succeed _ [] _

/-- R307: every record has the fields that the immediate's check lets through. -/
theorem isSome_certField (r : CertRecord) {fid : Nat} (h : fid ≤ 13) : (certField r fid).isSome = true := by
  interval_cases fid <;> rfl

theorem certField_checksReadShape : ChecksReadShape (exec (.certField rd imm)) := by
  refine checksReadShape_run_withCert (fun _ _ _ => rfl) fun s r hf => ?_
  rw [firstFailure_eq_none_iff, List.forall_mem_cons, checkImm_eq_none_iff, Bool.and_eq_true, decide_eq_true_eq] at hf
  obtain ⟨⟨-, hfid⟩, -⟩ := hf
  obtain ⟨field, hfield⟩ := Option.isSome_iff_exists.mp (isSome_certField r hfid)
  simp only [hfield]
  exact pastChecks_deliver s rd _ _

theorem certSan_checksReadShape : ChecksReadShape (exec (.certSan rd imm)) := by
  refine checksReadShape_run_withCert (fun _ _ _ => rfl) fun s r _ => ?_
  cases san r with
  | malformed => exact pastChecks_raise s _ rfl
  | absent => exact pastChecks_succeed s _ _
  | present names => exact pastChecks_deliver s rd _ _

theorem certBc_checksReadShape : ChecksReadShape (exec (.certBc imm)) := by
  refine checksReadShape_run_withCert (fun _ _ _ => rfl) fun s r _ => ?_
  cases basicConstraints r with
  | malformed => exact pastChecks_raise s _ rfl
  | absent | present b => exact pastChecks_succeed s _ _

theorem certKu_checksReadShape : ChecksReadShape (exec (.certKu imm)) := by
  refine checksReadShape_run_withCert (fun _ _ _ => rfl) fun s r _ => ?_
  cases keyUsage r with
  | malformed => exact pastChecks_raise s _ rfl
  | absent | present mask => exact pastChecks_succeed s _ _

theorem chainValidate_checksReadShape : ChecksReadShape (exec (.chainValidate rs1 imm)) := by
  refine checksReadShape_run (fun s s' h => by simp only [h.checkLength_eq]) fun s => ?_
  cases validateChain s imm.toNat (timeOperand (s.slot rs1)) with
  | none => exact pastChecks_succeed s _ _
  | some fault => exact pastChecks_raise s _ rfl

theorem ocspCheck_checksReadShape : ChecksReadShape (exec (.ocspCheck rs1 rs2 imm)) := by
  refine checksReadShape_run_withCert (fun s s' h => by simp only [h.checkLength_eq]) fun s r _ => ?_
  cases ocspRecords ((s.slot rs2).length + 1) (s.slot rs2) with
  | none => exact pastChecks_raise s _ rfl
  | some records =>
    simp only
    cases records.find? fun m => m.serial == r.serialNumber with
    | none => exact pastChecks_succeed s _ _
    | some m =>
      simp only
      split
      · exact pastChecks_raise s _ rfl
      split
      · exact pastChecks_raise s _ rfl
      · exact pastChecks_succeed s _ _

end

/-- R380: the checks of every command read the lengths of the slots and which entries are valid, nothing else. -/
theorem exec_checksReadShape (i : Instr) : ChecksReadShape (exec i) := by
  cases i with
  | nop | slotClear | slotCopy | slotConcat | ctCmp | hashSha256 | hashSha384 | hashSha512 | shaPadSha256 | shaPadSha384
  | shaPadSha512 | shaIvSha256 | shaIvSha384 | shaIvSha512 | hmacSha256 | hmacSha384 | hmacSha512 | hkdfExtractSha256
  | hkdfExtractSha384 | hkdfExtractSha512 | derParse | hostnameMatch | tsAdd => exact checksReadShape_of_codes rfl
  | hkdfExpandSha256 | hkdfExpandSha384 | hkdfExpandSha512 => exact checksReadShape_run_succeed fun _ _ _ => rfl
  | shaCompressSha256 | shaCompressSha384 | shaCompressSha512 | hkdfExpandLabelSha256 | hkdfExpandLabelSha384
  | hkdfExpandLabelSha512 | aesKeyexp | aesEnc | gf128Mul | ghash | aesCtr | gcmEnc | chacha20Block | chacha20Xor
  | poly1305 | ccpEnc | x25519 | x25519Base | gfMul | gfInv | ladder =>
    exact checksReadShape_run_succeed fun s s' h => by simp only [h.checkLength_eq, h.checkMaxLength_eq]
  | certHostname | tsQuery =>
    exact checksReadShape_run_withCert (fun _ _ _ => rfl) fun s _ _ => pastChecks_succeed s _ _
  | certValidity =>
    exact checksReadShape_run_withCert (fun s s' h => by simp only [h.checkLength_eq]) fun s _ _ =>
      pastChecks_succeed s _ _
  | gcmDec rd rs1 rs2 rs3 rs4 rs5 => exact gcmDec_checksReadShape rd rs1 rs2 rs3 rs4 rs5
  | ccpDec rd rs1 rs2 rs3 rs4 rs5 => exact ccpDec_checksReadShape rd rs1 rs2 rs3 rs4 rs5
  | certParse rs1 imm => exact certParse_checksReadShape rs1 imm
  | certField rd imm => exact certField_checksReadShape rd imm
  | certSan rd imm => exact certSan_checksReadShape rd imm
  | certBc imm => exact certBc_checksReadShape imm
  | certKu imm => exact certKu_checksReadShape imm
  | chainValidate rs1 imm => exact chainValidate_checksReadShape rs1 imm
  | ocspCheck rs1 rs2 imm => exact ocspCheck_checksReadShape rs1 rs2 imm

end Sys2Proof.Machine
end

section
/-! SUPPORT. STATUS after reset (10_state.md R28, R47). -/

namespace Sys2Proof.Machine

open Sys2Proof

theorem State.status_reset : State.reset.status = 0 := by decide

end Sys2Proof.Machine
end

section
/-! The statements about all commands (60_exceptions.md) and about `Reset` (70_reset_and_hazards.md). -/

namespace Sys2Proof.Machine

open Sys2Proof

/-- Settles O8: the transaction leaves the reset state with the turns still to come, and with BUSY = 0 the core holds
it. -/
theorem resetTransaction : Obligations.ResetTransaction := by
  intro s rest hs
  refine ⟨{ State.reset with schedule := rest }, step_of_host s _ rest hs, State.slot_reset, rfl, rfl, rfl, rfl, rfl,
    rfl, State.status_reset, rfl, rfl, State.cert_reset, rfl, rfl, rfl, coreStep_of_idle _ rfl⟩

/-- Settles O17: a failure is raised (`exec_fails_cases`), and only CERT_PARSE with PARSE_ERROR has written before. -/
theorem failureEffects : Obligations.FailureEffects := by
  intro i s t h hfail
  obtain ⟨u, f, rfl, hoperand, hu⟩ := exec_fails_cases h hfail
  have hrecord := recordOk_failure f hoperand
  have hended : Ended s (u.raise (destSlots i) f) f.result f.retval f.errinfo := by
    obtain rfl | ⟨rs1, imm, rfl, rfl, rfl⟩ := hu
    · exact u.ended_raise _ f
    · exact { (s.setCert imm.toNat none).ended_raise _ .parseError with }
  refine ⟨fun j => ?_, ?_, fun k hk => ?_, ?_, hrecord.retval_zero hfail, hrecord.errinfo_zero, hended⟩
  · have hslot : u.slot j = s.slot j := by
      obtain rfl | ⟨rs1, imm, rfl, rfl, rfl⟩ := hu <;> rfl
    rw [State.slot_raise, hslot]
    exact if_congr (and_comm.trans (and_congr_right fun _ => f.clearsDests_iff)) rfl rfl
  · rintro _ ⟨rs1, imm, rfl, rfl, hparse⟩
    exact cert_eq_none_of_certParse h hparse
  · rw [State.cert_raise]
    obtain rfl | ⟨rs1, imm, rfl, rfl, rfl⟩ := hu
    · rfl
    · rw [State.cert_setCert, if_neg fun he => hk ⟨rs1, imm, rfl, he.1, rfl⟩]
  · rw [State.raise_ts]
    obtain rfl | ⟨rs1, imm, rfl, rfl, rfl⟩ := hu <;> rfl

/-- Settles O18: the writes of a command that ends with OK go to its destinations, and only CERT_PARSE and TS_ADD
change a table before (`exec_succeeds_cases`). -/
theorem successFrame : Obligations.SuccessFrame := by
  intro i s t h hok
  obtain ⟨u, ws, v, rfl, hws, hu⟩ := exec_succeeds_cases h hok
  refine ⟨fun j hj => ?_, fun k hk => ?_, fun hadd => ?_, u.succeed_errinfo ws v⟩
  · have hunnamed : ∀ w ∈ ws, j ≠ w.1 := fun w hw he => hj (he ▸ hws w hw)
    rw [State.slot_succeed, State.slot_setSlots_of_notMem u ws j hunnamed]
    obtain rfl | ⟨rs1, imm, record, rfl, rfl⟩ | ⟨rs1, ts, rfl, rfl⟩ := hu <;> rfl
  · rw [State.cert_succeed]
    obtain rfl | ⟨rs1, imm, record, rfl, rfl⟩ | ⟨rs1, ts, rfl, rfl⟩ := hu
    · rfl
    · rw [State.cert_setCert, if_neg fun he => hk rs1 imm rfl he.1]
    · rfl
  · rw [State.succeed_ts]
    obtain rfl | ⟨rs1, imm, record, rfl, rfl⟩ | ⟨rs1, ts, rfl, rfl⟩ := hu
    · rfl
    · rfl
    · exact absurd rfl (hadd rs1)

/-- Settles O19, from `exec_checksReadShape`. -/
theorem checksIgnoreContent : Obligations.ChecksIgnoreContent := by
  intro i s s' t t' hlength hvalid h h' c hc
  exact (exec_checksReadShape i s s' t t' ⟨hlength, hvalid⟩ h h').of_mem hc

end Sys2Proof.Machine
end
